-- ==== Sys2Proof/Word.lean ====
section
/-! DEFINITION. The word types of the part (00_scope.md, "Words and addresses", "Time base") and the
plainest operations on fixed-size arrays. Everything a later repair might touch stands elsewhere. -/

namespace Sys2Proof

/-- A word of memory, of the link and of the control table: 16 bits (00_scope.md, Conventions). -/
abbrev Word := BitVec 16

/-- A value of the millisecond counter: 32 bits, wrapping (R159). -/
abbrev Time := BitVec 32

/-- Replace one element of a fixed-size array by a function of its old value. -/
def upd {α : Type} {n : Nat} (v : Vector α n) (i : Fin n) (f : α → α) : Vector α n :=
  v.set i (f v[i])

end Sys2Proof
end

