-- ==== Sys2Proof/Syntax.lean ====
section
/-! DEFINITION. The commands of the part: one constructor per row of spec/opcode_table.json.

A row is one step, whole and indivisible (95_what_each_step_holds.md). A constructor's operands are
what reaches the part from outside at that step: a converter sample, a word on the link, the value a
memory read returns, the level of a line. A step whose data the part already holds (the grant of the
image queue's head, the handoff of the next word of the request in the link's buffer) has no operand. -/

namespace Sys2Proof

/-- Which of the two resets is asserted (R158: the RESET record names it). -/
inductive ResetKind where
  | powerOn
  | external
deriving DecidableEq, Repr

/-- One constructor per row of spec/opcode_table.json, in the table's order. -/
inductive Instr where
  /-- RESET (R25, R98, R132): power-on or external reset is asserted. -/
  | reset (kind : ResetKind)
  /-- RESET_RELEASE (R154): the reset input is released; the operand is the four strap pins (R147). -/
  | resetRelease (straps : BitVec 4)
  /-- TABLE_LOAD_READ_COMPLETION (R154): the memory returns `value` for the load's read in flight. -/
  | tableLoadReadCompletion (value : Word)
  /-- WRITE_BACK_COMPLETION (R154). -/
  | writeBackCompletion
  /-- SAMPLE_ARRIVAL (R1, R4): the 12-bit converter delivers raw sample `raw` of a channel 0..23. -/
  | sampleArrival (channel : Fin 25) (raw : BitVec 12)
  /-- FLOW_PULSE (R2): a pulse that lasted `micros` whole microseconds ends. -/
  | flowPulse (micros : Nat)
  /-- FLOW_GATE_EXPIRY (R3). -/
  | flowGateExpiry
  /-- MODULE_RECOVERY_HOLD_EXPIRY (R39), of one module. -/
  | moduleRecoveryHoldExpiry (module : Fin 8)
  /-- RAMP_EXPIRY (R53, R54). -/
  | rampExpiry
  /-- CAPTURE_READ_GRANT (R62, R66). -/
  | captureReadGrant
  /-- CAPTURE_READ_COMPLETION (R63): the memory returns `value` for the capture read in flight. -/
  | captureReadCompletion (value : Word)
  /-- IMAGE_WRITE_GRANT (R71). -/
  | imageWriteGrant
  /-- IMAGE_WRITE_COMPLETION (R72). -/
  | imageWriteCompletion
  /-- HOST_LEVEL_WORD (R74): handoff of the request's next word, whose address is a level word. -/
  | hostLevelWord
  /-- HOST_LEVEL_WRITE_COMPLETION (R75). -/
  | hostLevelWriteCompletion
  /-- PENDING_CHANGE (R81): an arc line 0..3 takes level `high`. -/
  | pendingChange (source : Fin 5) (high : Bool)
  /-- SURGE_COMPARATOR_CHANGE (R82): the surge detector input comes to read `reading` ru, 0..4096. -/
  | surgeComparatorChange (reading : Nat)
  /-- DEBOUNCED_TRANSITION (R81): a source's pending change has held for its debounce time. -/
  | debouncedTransition (source : Fin 5)
  /-- MUTE_SETTLE_EXPIRY (R88). -/
  | muteSettleExpiry
  /-- PROOF_TIMER_EXPIRY (R94). -/
  | proofTimerExpiry
  /-- BLANK_EXPIRY (R109). -/
  | blankExpiry
  /-- SYSTEM_RECOVERY_HOLD_EXPIRY (R111). -/
  | systemRecoveryHoldExpiry
  /-- INTERRUPTION_ENTRY_REMOVAL (R103). -/
  | interruptionEntryRemoval
  /-- RESUME (R116): handoff of a command word of code 1. -/
  | resume
  /-- STANDBY (R117): handoff of a command word of code 2. -/
  | standby
  /-- RELEASE (R118): handoff of a command word of code 3. -/
  | release
  /-- PROOF (R92, R119): handoff of a command word of code 4. -/
  | proof
  /-- COMMAND_NONE (R115): handoff of a command word of code 0. -/
  | commandNone
  /-- UNKNOWN_COMMAND (R115): handoff of a command word of code 5..255. -/
  | unknownCommand
  /-- LINK_HEADER (R123): a word with the frame mark arrives in IDLE. -/
  | linkHeader (word : Word)
  /-- FRAME_WORD (R123): a word, marked or not, arrives in RECEIVING before the check position. -/
  | frameWord (word : Word) (mark : Bool)
  /-- DISCARDED_WORD (R124): a word the link discards arrives. -/
  | discardedWord (word : Word) (mark : Bool)
  /-- REQUEST_FRAME (R126): the word at the check position arrives, marked or not. -/
  | requestFrame (word : Word) (mark : Bool)
  /-- STALL_TIMER_EXPIRY (R125). -/
  | stallTimerExpiry
  /-- HOST_READ_COMPLETION (R127): the memory returns `value` for the host read in flight. -/
  | hostReadCompletion (value : Word)
  /-- HOST_WRITE_COMPLETION (R128). -/
  | hostWriteCompletion
  /-- RESPONSE_SENT (R131). -/
  | responseSent
  /-- WRITE_WORD (R129): handoff of the request's next word, which has no row of its own. -/
  | writeWord
  /-- STEP_PRE_READ_COMPLETION (R141): the memory returns `value` for the pre-read in flight. -/
  | stepPreReadCompletion (value : Word)
  /-- CONSUMED_INDEX_WRITE (R153): handoff of a word to table offset 0x001. -/
  | consumedIndexWrite
  /-- LEVEL_ENABLE_MASK_WRITE (R65): handoff of a word to table offset 0x017. -/
  | levelEnableMaskWrite
  /-- LEVEL_ADDRESS_WRITE (R68): handoff of a word to a level entry's address word. -/
  | levelAddressWrite
  /-- GUARD_WORD_A_WRITE (R143): handoff of a word to word A of a guard entry. -/
  | guardWordAWrite
  /-- GUARD_BASE_STEP_WRITE (R144): handoff of a word to word B or C of a guard entry. -/
  | guardBaseStepWrite
  /-- SOURCE_ENABLE (R84): handoff of a source word that enables a disabled source. -/
  | sourceEnable
  /-- SOURCE_DISABLE (R84): handoff of a source word that disables an enabled source. -/
  | sourceDisable
  /-- SOURCE_SETTING_CHANGE (R85): handoff of a source word that changes an enabled source's settings. -/
  | sourceSettingChange
  /-- SURGE_LEVEL_WRITE (R82): handoff of a word to table offset 0x014. -/
  | surgeLevelWrite
  /-- CHANNEL_ENABLE (R17): handoff of a channel word 0 that enables a disabled channel. -/
  | channelEnable
  /-- CHANNEL_DISABLE (R18): handoff of a channel word 0 that disables an enabled channel. -/
  | channelDisable
  /-- DIRECTION_CHANGE (R19): handoff of a channel word 0 that changes an enabled channel's direction. -/
  | directionChange
  /-- PERSISTENCE_LOWER (R20): handoff of a channel word 0 that lowers an enabled channel's P. -/
  | persistenceLower
  /-- FOLD_SETTING_WRITE (R19): handoff of a word to a fold start, fold stop or fault factor. -/
  | foldSettingWrite
  /-- TRIP_LEVEL_WRITE (R20): handoff of a word to a trip level or hysteresis. -/
  | tripLevelWrite
  /-- CALIBRATION_WRITE (R21): handoff of a word that writes a gain, an offset or a filter shift. -/
  | calibrationWrite
  /-- PRESENT_MASK_WRITE (R40): handoff of a word to table offset 0x003. -/
  | presentMaskWrite
  /-- MISMATCH_PARAMETER_WRITE (R33): handoff of a word to table offset 0x00D..0x010. -/
  | mismatchParameterWrite
  /-- LIMIT_CAP_WRITE (R48): handoff of a word to table offset 0x004, 0x011 or 0x012. -/
  | limitCapWrite
  /-- INTERRUPTION_WINDOW_WRITE (R103): handoff of a word to table offset 0x009. -/
  | interruptionWindowWrite
  /-- SWEEP_COMPLETION (R157). -/
  | sweepCompletion
  /-- SWEEP_TIMER_EXPIRY (R156). -/
  | sweepTimerExpiry
  /-- SNAPSHOT_TIMER_EXPIRY (R160). -/
  | snapshotTimerExpiry
  /-- PUBLICATION_WRITE_GRANT (R161). -/
  | publicationWriteGrant
  /-- SNAPSHOT_WORD_COMPLETION (R160). -/
  | snapshotWordCompletion
  /-- RECORD_WORD_COMPLETION (R163). -/
  | recordWordCompletion
deriving DecidableEq, Repr

end Sys2Proof
end

