-- ==== Sys2Proof/Decode.lean ====
section
/-! DEFINITION. The commands that words spell by the bits of spec/opcode_table.json. No row of the table
gives bits (98_reader.md: `n_rows_with_fixed` is 0), so no word spells a command. The link's frames and
the control table's words are no encodings of commands: Machine/Operands.lean reads their fields. -/

namespace Sys2Proof

/-- The command a word of `nbits` bits spells by the table's bits: none, for no row gives any. -/
def decodeTableWord (_nbits _w : Nat) : Option Instr := none

end Sys2Proof
end

