-- ==== Sys2Proof/Config.lean ====
section
/-! DEFINITION. What the part fixes: the table offsets the rules name and the fixed times. The spec
leaves no value of an instruction's result open, so there is no free constant here (log entry 1). -/

namespace Sys2Proof.Config

/-! Table offsets of section 9.1 (R147) and section 11.1 (R150). -/
def offCommand : Nat := 0x000
def offConsumed : Nat := 0x001
def offReference : Nat := 0x002
def offPresentMask : Nat := 0x003
def offLicence : Nat := 0x004
def offRestart : Nat := 0x005
def offRampStep : Nat := 0x006
def offRampInterval : Nat := 0x007
def offBlankTime : Nat := 0x008
def offWindow : Nat := 0x009
def offLockoutCount : Nat := 0x00A
def offSysHold : Nat := 0x00B
def offModHold : Nat := 0x00C
def offPfMin : Nat := 0x00D
def offRa : Nat := 0x00E
def offQTrip : Nat := 0x00F
def offPm : Nat := 0x010
def offFallbackCap : Nat := 0x011
def offUnprovenCap : Nat := 0x012
def offAlertMask : Nat := 0x013
def offSurgeLevel : Nat := 0x014
def offFlowGate : Nat := 0x015
def offProofWindow : Nat := 0x016
def offLevelMask : Nat := 0x017
/-- Address word of level entry `i`. -/
def offLevelAddr (i : Nat) : Nat := 0x018 + i
/-- Guard mask `m`. -/
def offGuardMask (m : Nat) : Nat := 0x021 + m
/-- Words A, B and C of guard entry `g` (section 8.1). -/
def offGuardA (g : Nat) : Nat := 0x025 + 3 * g
def offGuardB (g : Nat) : Nat := 0x026 + 3 * g
def offGuardC (g : Nat) : Nat := 0x027 + 3 * g
/-- Source word of source `s` (section 5.1). -/
def offSource (s : Nat) : Nat := 0x055 + s
/-- Word `k` of channel `c`'s record (R147). -/
def offChannel (c k : Nat) : Nat := 0x05A + 8 * c + k
/-- The last shadowed offset (R147). -/
def offLastShadowed : Nat := 0x121
/-- The first offset the checksum covers (R156). -/
def offFirstCovered : Nat := 0x003
/-- Base of the status block and of the record ring (section 9.1). -/
def offStatus : Nat := 0x200
def offRing : Nat := 0x300

/-! Fixed times, in milliseconds. -/
/-- R88: the mute settle timer. -/
def muteSettleMs : Nat := 50
/-- R123: the stall timer. -/
def stallMs : Nat := 1
/-- R156: the sweep timer. -/
def sweepPeriodMs : Nat := 1000
/-- R158: the snapshot timer. -/
def snapshotPeriodMs : Nat := 100

/-- 100 % of rated power in rating units (00_scope.md, Conventions). -/
def full : Nat := 4096

end Sys2Proof.Config
end

