-- ==== Sys2Proof/Machine/State.lean ====
section
/-! DEFINITION. The state of the part, block by block (00_scope.md, "Blocks of the part"), as plain
data, with the value every field has after reset. The drive parameter memory is not the part's: what
it returns is an operand of the completion commands (log entry 2). -/

namespace Sys2Proof.Machine

open Sys2Proof

/-! ## Stops -/

/-- The part has no fault: the spec gives every event an effect, so no command stops the machine.
The type is empty on purpose. -/
inductive Fault
deriving DecidableEq, Repr

/-- Why a command has no meaning here. -/
inductive Refusal where
  /-- Raised only by an arm of `exec` whose command has no meaning yet; no arm raises it now. Safe. -/
  | notModelled (mnemonic : String)
deriving DecidableEq, Repr

/-! ## Timers -/

/-- A timer: `none` is idle, `some n` is running, started with a length of `n` milliseconds. How much
of the length has passed is not held: its expiry is a command (log entry 4). -/
abbrev Timer := Option Nat

/-! ## Measurement unit (chapter 1) -/

/-- R16. -/
inductive ChanState where
  | disabled | fault | tripped | folding | normal
deriving DecidableEq, Repr

/-- The live state of one channel (section 1.2). -/
structure Channel where
  /-- Instant value, −32768..32767. -/
  instant : Int
  /-- Filtered value, −32768..32767. -/
  filtered : Int
  unseeded : Bool
  /-- Rail count, 0..P. -/
  railCount : Nat
  /-- Persistence count, 0..P. -/
  persCount : Nat
  tripFlag : Bool
  inFault : Bool
  /-- Foldback factor, 0..4096 ru. -/
  factor : Nat
  state : ChanState
deriving DecidableEq, Repr

/-- Channels 0..24 and the flow counter (R2, R3). -/
structure Measurement where
  chans : Vector Channel 25
  /-- Pulse count, 0..65535. -/
  pulses : Nat
  /-- Flow gate timer. -/
  gate : Timer
deriving DecidableEq, Repr

/-! ## Mismatch evaluator and module supervisor (chapter 2) -/

/-- R27. -/
structure Mismatch where
  /-- Reflection ratio q, 0..4096 ru. -/
  q : Nat
  /-- F_mis, 0..4096 ru. -/
  factor : Nat
  count : Nat
  /-- The MISMATCH flag. -/
  flag : Bool
deriving DecidableEq, Repr

/-- Section 2.3. -/
inductive ModState where
  | absent | on | off | recovering
deriving DecidableEq, Repr

structure Module where
  state : ModState
  /-- Recovery hold timer. -/
  hold : Timer
deriving DecidableEq, Repr

/-- R35. -/
structure Modules where
  mods : Vector Module 8
  nPresent : Nat
  nOn : Nat
  /-- Balance factor F_bal, 0..4096 ru. -/
  fBal : Nat
  /-- The MODULES flag. -/
  flag : Bool
deriving DecidableEq, Repr

/-! ## Ceiling unit (chapter 3) -/

/-- R43; every ceiling is 0..4096 ru. -/
structure Ceilings where
  cRaw : Nat
  eSys : Nat
  mRaw : Vector Nat 8
  eMod : Vector Nat 8
  ramp : Timer
  fallbackMark : Bool
  unprovenMark : Bool
deriving DecidableEq, Repr

/-! ## Drive image (chapter 4) -/

inductive CaptureState where
  | capturing | tracking
deriving DecidableEq, Repr

/-- The write of a level word the port has taken and not completed (R60). -/
inductive WriteInFlight where
  | none
  | image (value : Nat)
  | host (value : Nat)
deriving DecidableEq, Repr

/-- R60; the record's entry number is its place in `Image.recs`. -/
structure LevelRec where
  addr : Word
  /-- Requested level, 0..4096 ru. -/
  requested : Nat
  /-- Applied level, 0..65535. -/
  applied : Nat
  capture : CaptureState
  inFlight : WriteInFlight
deriving DecidableEq, Repr

/-- One entry of the image write queue (R69). -/
structure ImageWrite where
  entry : Fin 9
  value : Nat
deriving DecidableEq, Repr

structure Image where
  recs : Vector (Option LevelRec) 9
  /-- Image write queue, head first. -/
  queue : List ImageWrite
deriving DecidableEq, Repr

/-! ## Arc monitor (chapter 5) -/

inductive SourceState where
  | disabled | untested | passed | failed | suspect
deriving DecidableEq, Repr

/-- A change of level awaiting its debounce time (R81), with the time it began with (R85). -/
structure Pending where
  level : Bool
  micros : Nat
deriving DecidableEq, Repr

structure Source where
  state : SourceState
  /-- Accepted level: `true` is high. -/
  accepted : Bool
  change : Option Pending
deriving DecidableEq, Repr

inductive ProofPhase where
  | waiting | passed
deriving DecidableEq, Repr

structure ProofTest where
  source : Fin 5
  phase : ProofPhase
deriving DecidableEq, Repr

/-- R79, with the input levels the debouncers compare (the arc lines and the surge detector input). -/
structure Arc where
  sources : Vector Source 5
  proof : Option ProofTest
  proofTimer : Timer
  /-- Proof stimulus outputs: `true` is asserted. -/
  stimulus : Vector Bool 5
  settle : Timer
  /-- Input pins: arc lines 0..3, `true` is high (section 11.7). -/
  lines : Vector Bool 4
  /-- Input pin: what the surge detector input reads, 0..4096 ru (R82). -/
  surgeInput : Nat
deriving DecidableEq, Repr

/-! ## Transmit state controller (chapter 6) -/

/-- Section 6.1. -/
inductive CtlState where
  | start | standby | restart | run | blank | tripped | lockout
deriving DecidableEq, Repr

/-- A member of the trip cause set (section 6.2): channel 16 + i, MISMATCH or MODULES. -/
inductive Cause where
  | chan (i : Fin 9)
  | mismatch
  | modules
deriving DecidableEq, Repr

/-- The trip cause set, one mark per member. -/
structure CauseSet where
  chans : Vector Bool 9
  mismatch : Bool
  modules : Bool
deriving DecidableEq, Repr

/-- R102. -/
inductive Origin where
  | arc (i : Fin 4)
  | surge
  | mismatch
deriving DecidableEq, Repr

/-- R102. -/
structure Interruption where
  time : Time
  origin : Origin
  forward : Int
deriving DecidableEq, Repr

/-- Section 11.2; `none` before the first command. -/
inductive CmdResult where
  | none | taken | refusedState | refusedBusy | refusedSource | unknown
deriving DecidableEq, Repr

/-- R98, with the INHIBIT line the controller drives (R99). -/
structure Controller where
  state : CtlState
  /-- The INHIBIT output: `true` is asserted. -/
  inhibit : Bool
  causes : CauseSet
  /-- Interruption list, oldest first. -/
  list : List Interruption
  blank : Timer
  hold : Timer
  /-- Last command code, 1..255. -/
  lastCode : Option Nat
  lastResult : CmdResult
deriving DecidableEq, Repr

/-! ## Link interface (sections 7.1 to 7.3) -/

inductive LinkState where
  | idle | receiving | serving | answering
deriving DecidableEq, Repr

/-- The fate of one written word (R130). -/
inductive WordOutcome where
  | written | trimmed | held
deriving DecidableEq, Repr

/-- R122. The position of the next word expected is one more than the length of `buf`. -/
structure Link where
  state : LinkState
  /-- Request buffer: header, address word, then the data words of a WRITE, as received. -/
  buf : List Word
  /-- Response data of the READ being served. -/
  readData : List Word
  stall : Timer
  /-- Index, from 1, of the next word of the request to be handed off. -/
  index : Nat
  /-- Outcomes of the words decided so far, first word first. -/
  outcomes : List WordOutcome
  /-- The response being sent in ANSWERING, check word last. -/
  response : List Word
deriving DecidableEq, Repr

/-! ## Guard map (R136) -/

/-- A host word under a STEP entry whose write has not completed. -/
structure Stepped where
  addr : Word
  /-- The value w the host wrote. -/
  value : Word
  entry : Fin 16
  /-- The value c the pre-read returned. -/
  preRead : Option Word
  /-- The forwarded value, formed at the pre-read's completion; before it, w. -/
  forward : Word
deriving DecidableEq, Repr

/-! ## Downstream port (section 7.4) -/

/-- What an access is for: it fixes the access's class and who is told of its completion. -/
inductive Purpose where
  | tableRead (off : Nat)
  | writeBack (off : Nat)
  | capture (entry : Fin 9)
  | image (entry : Fin 9)
  | hostRead
  | hostWrite
  | hostLevel (entry : Fin 9)
  | stepRead
  | stepWrite
  | recordWord
  | snapshotWord
deriving DecidableEq, Repr

inductive AccessKind where
  | read
  | write (value : Word)
deriving DecidableEq, Repr

/-- The access in flight (R132). -/
structure Access where
  purpose : Purpose
  addr : Word
  kind : AccessKind
deriving DecidableEq, Repr

/-- A class 1 access waiting to be granted (R134): a table-load read or write-back, or a capture
read of a record's address. -/
inductive Class1 where
  | tableRead (off : Nat)
  | writeBack (off : Nat) (value : Word)
  | capture (entry : Fin 9) (addr : Word)
deriving DecidableEq, Repr

/-- R132; `none` is idle. Class 1 work waits here in its order of issue; the other classes' pending
work is held by its owners (the image write queue, the link, the publication unit). -/
structure Port where
  inFlight : Option Access
  class1 : List Class1
deriving DecidableEq, Repr

/-! ## Table shadow and integrity checker (chapter 9) -/

inductive LoadPhase where
  | notBegun | running | complete
deriving DecidableEq, Repr

/-- The loader's progress (R148). A write-back still to be issued waits in `Port.class1`. -/
structure Loader where
  phase : LoadPhase
  /-- The next offset to be read. -/
  next : Nat
  /-- The level enable mask as read, kept until it is judged after the read of 0x020 (R154). -/
  maskRead : Word
deriving DecidableEq, Repr

inductive Verdict where
  | unchecked | agree | disagree
deriving DecidableEq, Repr

/-- R156: idle, or running with the next covered offset and the check so far. -/
inductive Sweep where
  | idle
  | running (position : Nat) (check : Word)
deriving DecidableEq, Repr

structure Checker where
  verdict : Verdict
  sweep : Sweep
  timer : Timer
deriving DecidableEq, Repr

/-! ## Publication unit (chapter 10) -/

/-- Section 11.2. -/
inductive RecKind where
  | reset | state | interruption | suspect | module | channel | verdict | link | proof
deriving DecidableEq, Repr

/-- What a submitter gives of a record (R162): its kind, subject and two values. -/
structure Draft where
  kind : RecKind
  subject : Word
  valueA : Word
  valueB : Word
deriving DecidableEq, Repr

/-- A composed record (R162). Its serial is taken when the serial word is issued (R163). -/
structure Record where
  draft : Draft
  time : Time
  ctl : CtlState
deriving DecidableEq, Repr

/-- The record being written, and the next of its eight words, 0..8. -/
structure RecordInProgress where
  record : Record
  next : Nat
deriving DecidableEq, Repr

/-- The snapshot being written: the next of its 158 writes, and the counter sampled at 0x201. -/
structure Snapshot where
  next : Nat
  time : Time
deriving DecidableEq, Repr

/-- R158. -/
structure Publication where
  timer : Timer
  snapshot : Option Snapshot
  /-- Sequence count, even. -/
  seq : Word
  fifo : List Record
  current : Option RecordInProgress
  writeIndex : Fin 32
  serial : Word
  /-- Lost count, saturating at 65535. -/
  lost : Nat
  /-- The ALERT output: `true` is asserted. -/
  alert : Bool
deriving DecidableEq, Repr

/-! ## The whole part -/

/-- Everything the spec gives the part, and the queue of commands that wait. -/
structure State where
  /-- Input pin: the RESET input is held. -/
  resetHeld : Bool
  /-- Which reset was asserted last (R158). -/
  resetKind : ResetKind
  /-- The strap value sampled at the release of reset (R147). -/
  straps : BitVec 4
  /-- The millisecond counter (R159). -/
  ms : Time
  /-- The shadow's 289 stored values: place i holds offset 0x001 + i (R147, R148). -/
  shadow : Vector Word 289
  loader : Loader
  checker : Checker
  meas : Measurement
  mis : Mismatch
  mods : Modules
  ceil : Ceilings
  image : Image
  arc : Arc
  ctl : Controller
  link : Link
  stepped : Option Stepped
  port : Port
  pub : Publication
  /-- Commands that wait, first in first out. -/
  pending : List Instr
deriving DecidableEq, Repr

/-! ## Reset values -/

/-- R25. -/
def Channel.reset : Channel :=
  { instant := 0, filtered := 0, unseeded := false, railCount := 0, persCount := 0,
    tripFlag := false, inFault := false, factor := 4096, state := .disabled }

/-- R25. -/
def Measurement.reset : Measurement :=
  { chans := Vector.replicate 25 Channel.reset, pulses := 0, gate := none }

/-- R27. -/
def Mismatch.reset : Mismatch := { q := 0, factor := 4096, count := 0, flag := false }

/-- R35. -/
def Modules.reset : Modules :=
  { mods := Vector.replicate 8 { state := .absent, hold := none },
    nPresent := 0, nOn := 0, fBal := 0, flag := false }

/-- R43. -/
def Ceilings.reset : Ceilings :=
  { cRaw := 0, eSys := 0, mRaw := Vector.replicate 8 0, eMod := Vector.replicate 8 0,
    ramp := none, fallbackMark := true, unprovenMark := false }

/-- R61. -/
def Image.reset : Image := { recs := Vector.replicate 9 none, queue := [] }

/-- R79. The accepted levels and the input pins are the model's (DESIGN CHOICE, log entry 5). -/
def Arc.reset : Arc :=
  { sources := Vector.replicate 5 { state := .disabled, accepted := false, change := none },
    proof := none, proofTimer := none, stimulus := Vector.replicate 5 false, settle := none,
    lines := Vector.replicate 4 false, surgeInput := 0 }

/-- R98. -/
def CauseSet.empty : CauseSet :=
  { chans := Vector.replicate 9 false, mismatch := false, modules := false }

/-- R98, R99. -/
def Controller.reset : Controller :=
  { state := .start, inhibit := true, causes := CauseSet.empty, list := [], blank := none,
    hold := none, lastCode := none, lastResult := .none }

/-- R122. -/
def Link.reset : Link :=
  { state := .idle, buf := [], readData := [], stall := none, index := 1, outcomes := [],
    response := [] }

/-- R132. -/
def Port.reset : Port := { inFlight := none, class1 := [] }

/-- R148. -/
def Loader.reset : Loader := { phase := .notBegun, next := 1, maskRead := 0 }

/-- R156. -/
def Checker.reset : Checker := { verdict := .unchecked, sweep := .idle, timer := none }

/-- R158. -/
def Publication.reset : Publication :=
  { timer := none, snapshot := none, seq := 0, fifo := [], current := none, writeIndex := 0,
    serial := 0, lost := 0, alert := false }

/-- The part after power-on reset, with the reset input held. The strap value is the model's until
the release samples it (DESIGN CHOICE, log entry 5). -/
def State.reset : State :=
  { resetHeld := true, resetKind := .powerOn, straps := 0, ms := 0,
    shadow := Vector.replicate 289 0, loader := Loader.reset, checker := Checker.reset,
    meas := Measurement.reset, mis := Mismatch.reset, mods := Modules.reset,
    ceil := Ceilings.reset, image := Image.reset, arc := Arc.reset, ctl := Controller.reset,
    link := Link.reset, stepped := none, port := Port.reset, pub := Publication.reset,
    pending := [] }

end Sys2Proof.Machine
end

