-- ==== Sys2Proof/Machine/Operands.lean ====
section
/-! DEFINITION. The operands of the commands: bit fields, codes and words of chapter 11, the settings
the blocks read from the shadow, the class of a written word's address (R129), and the validation of
configuration words (R149 to R154). -/

namespace Sys2Proof.Machine

open Sys2Proof Sys2Proof.Config

/-! ## Bit fields and word values -/

/-- The field of `n` bits from bit `lo`, bit 0 the least significant (chapter 11). -/
def field (w : Word) (lo n : Nat) : Nat := w.toNat / 2 ^ lo % 2 ^ n

/-- Bit `i` of a word. -/
def bit (w : Word) (i : Nat) : Bool := w.getLsbD i

/-- A number as a word. -/
def word (n : Nat) : Word := BitVec.ofNat 16 n

/-- A signed quantity as a word, in two's complement (R165). -/
def signedWord (i : Int) : Word := BitVec.ofInt 16 i

/-- The word with bit `i` set when `b`, else 0. -/
def mark (b : Bool) (i : Nat) : Word := if b then word (2 ^ i) else 0

/-! ## Codes (section 11.2) -/

def CtlState.code : CtlState → Word
  | .start => 0 | .standby => 1 | .restart => 2 | .run => 3 | .blank => 4 | .tripped => 5 | .lockout => 6

def ModState.code : ModState → Word
  | .absent => 0 | .on => 1 | .off => 2 | .recovering => 3

def SourceState.code : SourceState → Word
  | .disabled => 0 | .untested => 1 | .passed => 2 | .failed => 3 | .suspect => 4

def ChanState.code : ChanState → Word
  | .disabled => 0 | .fault => 1 | .tripped => 2 | .folding => 3 | .normal => 4

def Verdict.code : Verdict → Word
  | .unchecked => 0 | .agree => 1 | .disagree => 2

def CmdResult.code : CmdResult → Nat
  | .none => 0 | .taken => 1 | .refusedState => 2 | .refusedBusy => 3 | .refusedSource => 4 | .unknown => 5

def Origin.code : Origin → Word
  | .arc i => word i.val | .surge => 4 | .mismatch => 5

/-- Record kind codes, 1..9. -/
def RecKind.code : RecKind → Nat
  | .reset => 1 | .state => 2 | .interruption => 3 | .suspect => 4 | .module => 5 | .channel => 6
  | .verdict => 7 | .link => 8 | .proof => 9

/-- Outcome codes (section 11.5). -/
def WordOutcome.code : WordOutcome → Nat
  | .written => 0 | .trimmed => 1 | .held => 2

/-- "none" of a module record's channel and of the proof source (sections 11.3, 11.4). -/
def noneWord : Word := 0xFFFF

/-- The cause of a STATE record (R120). -/
inductive StateCause where
  | loadComplete
  | origin (o : Origin)
  | cause (c : Cause)
  | blankExpiry
  | holdExpiry
  | ceilingReached
  | commandResume
  | commandStandby
  | commandRelease
deriving DecidableEq, Repr

/-- STATE cause codes (section 11.2). -/
def StateCause.code : StateCause → Word
  | .loadComplete => 1
  | .origin (.arc i) => word (2 + i.val)
  | .origin .surge => 6
  | .origin .mismatch => 7
  | .cause .mismatch => 7
  | .cause (.chan i) => word (8 + i.val)
  | .cause .modules => 17
  | .blankExpiry => 18
  | .holdExpiry => 19
  | .ceilingReached => 20
  | .commandResume => 21
  | .commandStandby => 22
  | .commandRelease => 23

/-! ## The controller's two groups of states (section 6.1) -/

/-- RESTART and RUN are the running states; the others are muted. -/
def CtlState.running : CtlState → Bool
  | .restart => true | .run => true | _ => false

/-! ## The shadow and the control table (R147, R148) -/

/-- The stored value at a shadowed offset 0x001..0x121. -/
def State.word (s : State) (off : Nat) : Word := s.shadow[off - 1]?.getD 0

/-- A stored value read as an unsigned number. -/
def State.param (s : State) (off : Nat) : Nat := (s.word off).toNat

/-- Store a value at a shadowed offset. -/
def State.store (s : State) (off : Nat) (w : Word) : State :=
  { s with shadow := s.shadow.setIfInBounds (off - 1) w }

/-- R147: the table base is the sampled strap value times 0x1000. -/
def State.base (s : State) : Nat := s.straps.toNat * 0x1000

/-- The address of a table offset. -/
def State.tableAddr (s : State) (off : Nat) : Word := Sys2Proof.Machine.word (s.base + off)

/-- The address lies in the control table's 1024 words. -/
def State.inTable (s : State) (a : Word) : Bool := s.base ≤ a.toNat && a.toNat ≤ s.base + 0x3FF

/-- The load has completed: from then on every block acts on the shadow (R155). -/
def State.loaded (s : State) : Bool := s.loader.phase = .complete

/-! ## Channel settings (sections 9.2, 11.1) -/

/-- The fields of a channel's record. -/
structure ChanCfg where
  enable : Bool
  /-- Direction LOW. -/
  low : Bool
  /-- Filter shift k. -/
  shift : Nat
  /-- Persistence P. -/
  pers : Nat
  offset : Int
  gain : Nat
  foldStart : Int
  foldStop : Int
  tripLevel : Int
  hyst : Nat
  faultFactor : Nat
deriving DecidableEq, Repr

def chanEnable (w0 : Word) : Bool := bit w0 0
def chanLow (w0 : Word) : Bool := bit w0 1
def chanShift (w0 : Word) : Nat := field w0 2 3
def chanPers (w0 : Word) : Nat := field w0 5 4

/-- Channel `c`'s settings as the shadow holds them. -/
def State.chanCfg (s : State) (c : Fin 25) : ChanCfg :=
  let w (k : Nat) := s.word (offChannel c.val k)
  { enable := chanEnable (w 0), low := chanLow (w 0), shift := chanShift (w 0),
    pers := chanPers (w 0), offset := (w 1).toInt, gain := (w 2).toNat,
    foldStart := (w 3).toInt, foldStop := (w 4).toInt, tripLevel := (w 5).toInt,
    hyst := (w 6).toNat, faultFactor := (w 7).toNat }

/-! ## Source words (section 5.1) -/

def srcEnable (w : Word) : Bool := bit w 0

inductive Polarity where
  | rising | falling | both
deriving DecidableEq, Repr

/-- Section 11.1; code 0 is trimmed to BOTH before it is stored. -/
def srcPolarity (w : Word) : Polarity :=
  match field w 1 2 with
  | 1 => .rising
  | 2 => .falling
  | _ => .both

/-- Debounce time in microseconds. -/
def srcDebounce (w : Word) : Nat :=
  match field w 3 2 with
  | 0 => 0
  | 1 => 1
  | 2 => 2
  | _ => 4

def State.sourceWord (s : State) (i : Fin 5) : Word := s.word (offSource i.val)

/-- Source `i`'s input level: its arc line, or the surge comparator's output (R82). -/
def State.inputLevel (s : State) (i : Fin 5) : Bool :=
  if h : i.val < 4 then s.arc.lines[i.val] else s.param offSurgeLevel ≤ s.arc.surgeInput

/-! ## Guard entries (R136) -/

inductive GuardKind where
  | block | holdMuted | holdModuleOff | step
deriving DecidableEq, Repr

def guardEnable (a : Word) : Bool := bit a 0

def guardKind (a : Word) : GuardKind :=
  match field a 1 2 with
  | 0 => .block
  | 1 => .holdMuted
  | 2 => .holdModuleOff
  | _ => .step

def guardMaskSelect (a : Word) : Nat := field a 3 2
def guardZone (a : Word) : Fin 8 := Fin.ofNat 8 (field a 5 3)

/-- R137: entry `g` matches address `a`. -/
def State.guardMatches (s : State) (a : Word) (g : Fin 16) : Bool :=
  let wa := s.word (offGuardA g.val)
  let m := s.word (offGuardMask (guardMaskSelect wa))
  guardEnable wa && (a &&& m) == (s.word (offGuardB g.val) &&& m)

/-- R137: the lowest-numbered matching entry decides. -/
def State.guardFor (s : State) (a : Word) : Option (Fin 16) :=
  (List.finRange 16).find? (fun g => s.guardMatches a g)

/-! ## Command words and request headers (sections 11.1, 11.5) -/

def cmdCode (w : Word) : Nat := field w 0 8
def cmdSource (w : Word) : Nat := field w 8 3

def Link.header (l : Link) : Word := l.buf[0]?.getD 0
/-- The address word, or 0 if it has not arrived. -/
def Link.addr (l : Link) : Word := l.buf[1]?.getD 0
/-- Data word `i`, 1..count. -/
def Link.dataWord (l : Link) (i : Nat) : Word := l.buf[1 + i]?.getD 0
def Link.isWrite (l : Link) : Bool := bit l.header 15
/-- The count, from the count-less-one field: 1..16. -/
def Link.count (l : Link) : Nat := field l.header 0 4 + 1
/-- Position of the next word expected (R123). -/
def Link.position (l : Link) : Nat := l.buf.length + 1
/-- The check word's position: 3 in a READ, 3 + count in a WRITE (R123). -/
def Link.checkPosition (l : Link) : Nat := if l.isWrite then 3 + l.count else 3
/-- The address of word `i` of the request, 1..count. -/
def Link.wordAddr (l : Link) (i : Nat) : Word := l.addr + word (i - 1)

/-! ## The class of a written word's address (R129) -/

/-- What a host word's address names, in the order of R129's tests. -/
inductive Target where
  | partOwned
  | command
  | consumed
  | reference
  | param (off : Nat)
  | levelMask
  | levelAddr (i : Fin 9)
  | guardMask (m : Fin 4)
  | guardA (g : Fin 16)
  | guardB (g : Fin 16)
  | guardC (g : Fin 16)
  | source (i : Fin 5)
  | channel (c : Fin 25) (k : Fin 8)
  | free
  | level (i : Fin 9)
  | guard (g : Fin 16)
  | pass
deriving DecidableEq, Repr

/-- The word of the configuration area at an offset 0x000..0x1FF (R147). -/
def configTarget (off : Nat) : Target :=
  if off = offCommand then .command
  else if off = offConsumed then .consumed
  else if off = offReference then .reference
  else if off ≤ offProofWindow then .param off
  else if off = offLevelMask then .levelMask
  else if off ≤ 0x020 then .levelAddr (Fin.ofNat 9 (off - 0x018))
  else if off ≤ 0x024 then .guardMask (Fin.ofNat 4 (off - 0x021))
  else if off ≤ 0x054 then
    match (off - 0x025) % 3 with
    | 0 => .guardA (Fin.ofNat 16 ((off - 0x025) / 3))
    | 1 => .guardB (Fin.ofNat 16 ((off - 0x025) / 3))
    | _ => .guardC (Fin.ofNat 16 ((off - 0x025) / 3))
  else if off ≤ 0x059 then .source (Fin.ofNat 5 (off - 0x055))
  else if off ≤ offLastShadowed then
    .channel (Fin.ofNat 25 ((off - 0x05A) / 8)) (Fin.ofNat 8 ((off - 0x05A) % 8))
  else .free

/-- R73: the level record whose address the word's is. -/
def State.levelAt (s : State) (a : Word) : Option (Fin 9) :=
  (List.finRange 9).find? (fun i => (s.image.recs[i]).any (fun r => r.addr == a))

/-- R129: the five tests in order. -/
def State.target (s : State) (a : Word) : Target :=
  if s.inTable a then
    if 0x200 ≤ a.toNat - s.base then .partOwned else configTarget (a.toNat - s.base)
  else
    match s.levelAt a with
    | some i => .level i
    | none =>
      match s.guardFor a with
      | some g => .guard g
      | none => .pass

/-! ## Validation (R149 to R154) -/

/-- What validation answers: the word is held, or taken with a validated value. -/
inductive Judged where
  | held
  | taken (w : Word)
deriving DecidableEq, Repr

/-- R150: a value below its range becomes the lower limit, one above it the upper limit. -/
def saturate (lo hi : Nat) (w : Word) : Word :=
  if w.toNat < lo then word lo else if hi < w.toNat then word hi else w

/-- R150: the saturated parameters' ranges. -/
def paramRange (off : Nat) : Nat × Nat :=
  if off = offLicence then (0, 4096)
  else if off = offRestart then (0, 4096)
  else if off = offRampStep then (1, 4096)
  else if off = offRampInterval then (1, 255)
  else if off = offBlankTime then (5, 500)
  else if off = offWindow then (1, 600)
  else if off = offLockoutCount then (2, 8)
  else if off = offSysHold then (1, 600)
  else if off = offModHold then (1, 600)
  else if off = offPfMin then (1, 4096)
  else if off = offRa then (1, 4096)
  else if off = offQTrip then (1, 4096)
  else if off = offPm then (1, 15)
  else if off = offFallbackCap then (0, 4096)
  else if off = offUnprovenCap then (0, 4096)
  else if off = offSurgeLevel then (1, 4096)
  else if off = offFlowGate then (1, 50)
  else if off = offProofWindow then (1, 100)
  else (0, 65535)

/-- R150: system parameters, the present mask and the alert mask among them. -/
def judgeParam (off : Nat) (w : Word) : Judged :=
  if off = offPresentMask then
    if w &&& 0x00FF = 0 then .held else .taken (w &&& 0x00FF)
  else if off = offAlertMask then .taken (w &&& 0x01FF)
  else .taken (saturate (paramRange off).1 (paramRange off).2 w)

/-- R151: channel record words. -/
def validChannel (k : Nat) (w : Word) : Word :=
  match k with
  | 0 =>
    let t := w &&& 0x01FF
    if chanPers t = 0 then t ||| 0x0020 else t
  | 6 => saturate 0 32767 w
  | 7 => saturate 0 4096 w
  | _ => w

/-- R151: arc source words; a polarity of 0 becomes BOTH. -/
def validSource (w : Word) : Word :=
  let t := w &&& 0x001F
  if field t 1 2 = 0 then t ||| 0x0006 else t

/-- R143, R145: word A without the bits outside its four fields. -/
def validGuardA (w : Word) : Word := w &&& 0x00FF

/-- R144, R145: a step of 0 becomes 1. -/
def validStep (w : Word) : Word := if w = 0 then 1 else w

/-- The address word of level entry `i` in the shadow. -/
def State.levelAddr (s : State) (i : Fin 9) : Word := s.word (offLevelAddr i.val)

/-- R65 step 4 for one entry: `acc` holds the entries enabled so far in the examination. -/
def examineEntry (s : State) (want old : Word) (acc : Word) (i : Fin 9) : Word :=
  if bit want i.val && !bit old i.val then
    if s.inTable (s.levelAddr i)
        || (List.finRange 9).any (fun j => bit acc j.val && s.levelAddr j == s.levelAddr i) then acc
    else acc ||| mark true i.val
  else acc

/-- R65: the validated level enable mask, the mask `old` being in force. -/
def validLevelMask (s : State) (old w : Word) : Word :=
  let want := w &&& 0x01FF
  (List.finRange 9).foldl (examineEntry s want old) (want &&& old)

/-- R153: `v` does not pass the write index, counted from the stored index. -/
def consumedTaken (stored v : Word) (writeIndex : Fin 32) : Bool :=
  v.toNat < 32 &&
    (Fin.ofNat 32 v.toNat - Fin.ofNat 32 stored.toNat).val
      ≤ (writeIndex - Fin.ofNat 32 stored.toNat).val

/-- R149: the validation of a host word to a word of the configuration area, at its handoff. -/
def State.judge (s : State) (t : Target) (w : Word) : Judged :=
  match t with
  | .consumed =>
    if consumedTaken (s.word offConsumed) w s.pub.writeIndex then .taken w else .held
  | .param off => judgeParam off w
  | .levelMask => .taken (validLevelMask s (s.word offLevelMask) w)
  | .levelAddr i => if bit (s.word offLevelMask) i.val then .held else .taken w
  | .guardA g =>
    if guardEnable (s.word (offGuardA g.val)) && guardEnable w then .held
    else .taken (validGuardA w)
  | .guardB g => if guardEnable (s.word (offGuardA g.val)) then .held else .taken w
  | .guardC g => if guardEnable (s.word (offGuardA g.val)) then .held else .taken (validStep w)
  | .source _ => .taken (validSource w)
  | .channel _ k => .taken (validChannel k.val w)
  | _ => .taken w

/-- R154: the validation of a word the table load reads, at an offset other than the level enable
mask's: as a host write, with a value in place of each HELD case and no lock. -/
def loadValue (off : Nat) (w : Word) : Word :=
  match configTarget off with
  | .consumed => if w.toNat < 32 then w else 0
  | .param o =>
    match judgeParam o w with
    | .held => 0x00FF
    | .taken v => v
  | .guardA _ => validGuardA w
  | .guardC _ => validStep w
  | .source _ => validSource w
  | .channel _ k => validChannel k.val w
  | _ => w

/-- R149: WRITTEN if the forwarded value is the one written, TRIMMED if not. -/
def outcomeOf (written forwarded : Word) : WordOutcome :=
  if forwarded = written then .written else .trimmed

end Sys2Proof.Machine
end

