-- ==== Sys2Proof/Machine/Flags.lean ====
section
/-! DEFINITION. The computations of values and flags: conversion, filter, factor and trip flag of a
channel (sections 1.3 to 1.7), the mismatch judgement (section 2.1), the balance factor and the MODULES
flag (R41), the raw ceilings and the marks (chapter 3), the trip cause set, and the CRC (section 11.6). -/

namespace Sys2Proof.Machine

open Sys2Proof Sys2Proof.Config

/-! ## The check (section 11.6) -/

/-- One bit into the CRC-16 register: generator 0x1021. -/
def crcBit (r : Word) (b : Bool) : Word :=
  if (bit r 15 != b) then (r <<< 1) ^^^ 0x1021 else r <<< 1

/-- One word into the register, bit 15 first. -/
def crcWord (r w : Word) : Word :=
  (List.range 16).foldl (fun r i => crcBit r (bit w (15 - i))) r

/-- The check of a run of words continued from register `r`. -/
def crcFrom (r : Word) (ws : List Word) : Word := ws.foldl crcWord r

/-- The check of a run of words. -/
def crc (ws : List Word) : Word := crcFrom 0xFFFF ws

/-! ## Conversion and filter (R5, R6, R9) -/

/-- Saturation to a signed 16-bit quantity. -/
def satInt (i : Int) : Int := max (-32768) (min 32767 i)

/-- R5: raw sample to instant value. -/
def convert (raw gain : Nat) (offset : Int) : Int :=
  satInt (((raw * gain + 2048) / 4096 : Nat) + offset)

/-- R6: a raw sample of a converter channel that is exactly 0 or exactly 4095. -/
def isRail (raw : Nat) : Bool := raw == 0 || raw == 4095

/-- R9: the filtered value moves by ceil(|d| / 2^k) toward the instant value. -/
def filterStep (shift : Nat) (instant filtered : Int) : Int :=
  let d := instant - filtered
  let m := (d.natAbs + (2 ^ shift - 1)) / 2 ^ shift
  if 0 ≤ d then filtered + (m : Int) else filtered - (m : Int)

/-! ## Factor (R11 to R13) -/

/-- R11: direction HIGH. -/
def factorHigh (s t v : Int) : Nat :=
  if s < t then
    if v ≤ s then 4096 else if t ≤ v then 0 else (4096 * (t - v) / (t - s)).toNat
  else if v < t then 4096 else 0

/-- R12: direction LOW. -/
def factorLow (s t v : Int) : Nat :=
  if t < s then
    if s ≤ v then 4096 else if v ≤ t then 0 else (4096 * (v - t) / (s - t)).toNat
  else if t < v then 4096 else 0

/-- R11, R12. -/
def foldFactor (cfg : ChanCfg) (v : Int) : Nat :=
  if cfg.low then factorLow cfg.foldStart cfg.foldStop v
  else factorHigh cfg.foldStart cfg.foldStop v

/-- R13: the factor of a channel as its settings and live state stand. -/
def chanFactor (cfg : ChanCfg) (ch : Channel) : Nat :=
  if !cfg.enable then 4096
  else if ch.inFault then cfg.faultFactor
  else if ch.unseeded then 4096
  else foldFactor cfg ch.filtered

/-! ## Trip detection (R14, R15) -/

/-- The value is at or beyond the trip level. -/
def beyondTrip (cfg : ChanCfg) (x : Int) : Bool :=
  if cfg.low then x ≤ cfg.tripLevel else cfg.tripLevel ≤ x

/-- The value meets the release level. -/
def released (cfg : ChanCfg) (x : Int) : Bool :=
  if cfg.low then satInt (cfg.tripLevel + cfg.hyst) ≤ x
  else x ≤ satInt (cfg.tripLevel - cfg.hyst)

/-- The persistence count a sample leaves, before any release. -/
def persAfter (cfg : ChanCfg) (count : Nat) (x : Int) : Nat :=
  if beyondTrip cfg x then min cfg.pers (count + 1) else 0

/-- R14, R15: trip flag and persistence count after a sample of instant value `x`. -/
def judgeTrip (cfg : ChanCfg) (flag : Bool) (count : Nat) (x : Int) : Bool × Nat :=
  let n := persAfter cfg count x
  if flag then
    if released cfg x then (false, 0) else (true, n)
  else (n == cfg.pers, n)

/-! ## Channel state (R16) -/

def chanState (cfg : ChanCfg) (ch : Channel) : ChanState :=
  if !cfg.enable then .disabled
  else if ch.inFault then .fault
  else if ch.tripFlag then .tripped
  else if ch.factor < 4096 then .folding
  else .normal

/-! ## The evaluation of one sample (R4) -/

/-- R6, R7: a rail sample. -/
def railSample (cfg : ChanCfg) (ch : Channel) : Channel :=
  let n := min cfg.pers (ch.railCount + 1)
  if !ch.inFault && n == cfg.pers then
    { ch with railCount := n, tripFlag := false, persCount := 0, inFault := true,
              factor := cfg.faultFactor, state := .fault }
  else { ch with railCount := n }

/-- R5, R8 to R16: a sample that is not a rail sample. -/
def plainSample (cfg : ChanCfg) (raw : Nat) (ch : Channel) : Channel :=
  let x := convert raw cfg.gain cfg.offset
  let v := if ch.inFault || ch.unseeded then x else filterStep cfg.shift x ch.filtered
  let t := judgeTrip cfg ch.tripFlag ch.persCount x
  let moved : Channel :=
    { ch with instant := x, filtered := v, unseeded := false, railCount := 0, inFault := false,
              factor := foldFactor cfg v, tripFlag := t.1, persCount := t.2 }
  { moved with state := chanState cfg moved }

/-- R4: the evaluation of an arrival for an enabled channel; only channels 0 to 23 have rails. -/
def evalSample (cfg : ChanCfg) (rails : Bool) (raw : Nat) (ch : Channel) : Channel :=
  if rails && isRail raw then railSample cfg ch else plainSample cfg raw ch

/-! ## Settings changed while a channel runs (section 1.8) -/

/-- R17. -/
def startChannel (ch : Channel) : Channel :=
  { ch with unseeded := true, railCount := 0, persCount := 0, tripFlag := false, inFault := false,
            factor := 4096, state := .normal }

/-- R18. -/
def stopChannel (ch : Channel) : Channel :=
  { ch with unseeded := false, railCount := 0, persCount := 0, tripFlag := false, inFault := false,
            factor := 4096, state := .disabled }

/-- R19: the factor and the channel state are computed again from the filtered value held. -/
def refactor (cfg : ChanCfg) (ch : Channel) : Channel :=
  let moved : Channel := { ch with factor := chanFactor cfg ch }
  { moved with state := chanState cfg moved }

/-- R19, R20: a word 0 write that leaves an enabled channel enabled. A new direction resets the
persistence count and the factor; a lower P reduces the counts. -/
def retuneChannel (old new : ChanCfg) (ch : Channel) : Channel :=
  let turned : Channel :=
    if old.low != new.low then refactor new { ch with persCount := 0 } else ch
  { turned with railCount := min turned.railCount new.pers,
                persCount := min turned.persCount new.pers }

/-! ## Mismatch (R29 to R32) -/

/-- What a mismatch evaluation reads (R28). -/
structure MismatchInput where
  enabled16 : Bool
  enabled17 : Bool
  ch16 : Channel
  ch17 : Channel
  faultFactor17 : Nat
  pfMin : Nat
  ra : Nat
  qTrip : Nat
  pm : Nat

/-- R29: the effects common to the cases in which the ratio is not computed. -/
def notComputed (f : Nat) : Mismatch := { q := 0, factor := f, count := 0, flag := false }

/-- R30: the reflection ratio of a positive Pf. -/
def reflectionRatio (pf pr : Int) : Nat := min 4096 ((max pr 0).toNat * 4096 / pf.toNat)

/-- R30: F_mis from q. -/
def mismatchFactor (ra q : Nat) : Nat := if q = 0 then 4096 else min 4096 (ra * 4096 / q)

/-- R31, R32: an evaluation that judges. -/
def judgeMismatch (i : MismatchInput) (m : Mismatch) : Mismatch :=
  let q := reflectionRatio i.ch16.filtered i.ch17.filtered
  let n := if i.qTrip ≤ q then min i.pm (m.count + 1) else 0
  if m.flag then
    if q ≤ 3 * i.qTrip / 4 then
      { q := q, factor := mismatchFactor i.ra q, count := 0, flag := false }
    else { q := q, factor := mismatchFactor i.ra q, count := n, flag := true }
  else { q := q, factor := mismatchFactor i.ra q, count := n, flag := n == i.pm }

/-- R29 to R32: one mismatch evaluation. -/
def evalMismatch (i : MismatchInput) (m : Mismatch) : Mismatch :=
  if !i.enabled16 || !i.enabled17 then notComputed 4096
  else if i.ch16.inFault || i.ch17.inFault then notComputed i.faultFactor17
  else if i.ch16.unseeded || i.ch17.unseeded then notComputed 4096
  else if i.ch16.filtered < i.pfMin then notComputed 4096
  else judgeMismatch i m

/-! ## Module balance (R41) -/

def countState (mods : Vector Module 8) (p : ModState → Bool) : Nat :=
  (mods.toList.filter (fun m => p m.state)).length

/-- R41: F_bal. Before load completion n_present is 0, and F_bal is 0 (R35). -/
def balanceFactor (nOn nPresent : Nat) : Nat := 4096 * nOn ^ 2 / nPresent ^ 2

/-- R41: the counts, F_bal and the MODULES flag from the module states. -/
def recount (m : Modules) : Modules :=
  let p := countState m.mods (fun st => st != .absent)
  let o := countState m.mods (fun st => st == .on)
  { m with nPresent := p, nOn := o, fBal := balanceFactor o p, flag := o == 0 }

/-! ## Raw ceilings and marks (R45 to R49) -/

/-- R45: the system raw ceiling, the least of its inputs as they stand. -/
def rawSystem (s : State) : Nat :=
  let least := (List.finRange 9).foldl (fun a i =>
    min a (s.meas.chans[16 + i.val]).factor)
    (min (s.param offLicence) (min s.mis.factor s.mods.fBal))
  let least := if s.ceil.fallbackMark then min least (s.param offFallbackCap) else least
  if s.ceil.unprovenMark then min least (s.param offUnprovenCap) else least

/-- R49: module n's raw ceiling. -/
def rawModule (s : State) (n : Fin 8) : Nat :=
  if (s.mods.mods[n]).state = .on then
    min (s.meas.chans[n.val]).factor (s.meas.chans[8 + n.val]).factor
  else 0

/-- R47: an enabled source is FAILED or SUSPECT; a source is in DISABLED exactly when it is not enabled. -/
def anyUnproven (a : Arc) : Bool :=
  a.sources.toList.any (fun x => x.state == .failed || x.state == .suspect)

/-! ## Trip cause set (section 6.2) -/

def CauseSet.isEmpty (c : CauseSet) : Bool :=
  !(c.chans.toList.any id || c.mismatch || c.modules)

def CauseSet.put (c : CauseSet) (m : Cause) (b : Bool) : CauseSet :=
  match m with
  | .chan i => { c with chans := c.chans.set i b }
  | .mismatch => { c with mismatch := b }
  | .modules => { c with modules := b }

def CauseSet.has (c : CauseSet) (m : Cause) : Bool :=
  match m with
  | .chan i => c.chans[i]
  | .mismatch => c.mismatch
  | .modules => c.modules

/-! ## Interruption ages (R103) -/

/-- R103: the entry's age, a difference of counter values modulo 2^32. -/
def age (now : Time) (e : Interruption) : Nat := (now - e.time).toNat

/-- R103: the entry's age has reached a window of `seconds`. -/
def aged (now : Time) (seconds : Nat) (e : Interruption) : Bool := seconds * 1000 ≤ age now e

end Sys2Proof.Machine
end

