-- ==== Sys2Proof/Machine/Ops.lean ====
section
/-! DEFINITION. The operations the commands share: an event under way, the submission of records
(R162, R163), the scheduling rule (R69), the ceilings an event leaves (R44, R50, R52, R56), the port's
arbiter (R133), the link's response (R131) and the conclusion of every event. -/

namespace Sys2Proof.Machine

open Sys2Proof Sys2Proof.Config

/-! ## An event under way -/

/-- An event under way: the state so far, and the records it has submitted so far, in order. A
record's seventh word is the controller's state as the event leaves it (R162), so the records are
composed when the event ends. -/
structure Ev where
  st : State
  out : List Draft

/-- The event before it has done anything. -/
def Ev.of (s : State) : Ev := { st := s, out := [] }

/-- Change the state. -/
def Ev.upd (e : Ev) (f : State → State) : Ev := { e with st := f e.st }

/-- Submit a record. -/
def Ev.draft (e : Ev) (d : Draft) : Ev := { e with out := e.out ++ [d] }

/-! ## Records (R162, R163) -/

/-- R163: the ring is full for a consumed index. -/
def ringFull (consumed : Word) (p : Publication) : Bool :=
  p.writeIndex + 1 == Fin.ofNat 32 consumed.toNat

/-- R163: with no record in progress, the head record is tested against the ring; a full ring drops
the head and tests the next, so it drops them all. -/
def ringTest (consumed : Word) (p : Publication) : Publication :=
  if p.current.isNone && ringFull consumed p then
    { p with fifo := [], lost := min 65535 (p.lost + p.fifo.length) }
  else p

/-- R162: a record is appended to a FIFO of fewer than 8, or dropped and counted; then R163's test. -/
def submit (consumed : Word) (r : Record) (p : Publication) : Publication :=
  if p.fifo.length < 8 then ringTest consumed { p with fifo := p.fifo ++ [r] }
  else { p with lost := min 65535 (p.lost + 1) }

/-- R162: compose and submit an event's records, in order. -/
def submitAll (ds : List Draft) (s : State) : State :=
  { s with pub := ds.foldl (fun p d =>
      submit (s.word offConsumed) { draft := d, time := s.ms, ctl := s.ctl.state } p) s.pub }

/-! ## Level records and the image write queue (R60, R69) -/

/-- R60: the effective ceiling that governs a level entry. -/
def governing (c : Ceilings) (i : Fin 9) : Nat :=
  if i.val = 0 then c.eSys else c.eMod[i.val - 1]?.getD 0

/-- R60: a record's target. -/
def targetOf (c : Ceilings) (i : Fin 9) (r : LevelRec) : Nat := min r.requested (governing c i)

/-- R69: put `v` into the queue for entry `i`: in the place of its entry, or at the end. -/
def enqueue (i : Fin 9) (v : Nat) (q : List ImageWrite) : List ImageWrite :=
  if q.any (fun e => e.entry == i) then
    q.map (fun e => if e.entry = i then { e with value := v } else e)
  else q ++ [{ entry := i, value := v }]

/-- R69: remove entry `i`'s write; the others keep their order. -/
def dequeue (i : Fin 9) (q : List ImageWrite) : List ImageWrite :=
  q.filter (fun e => e.entry != i)

/-- R69: the scheduling rule for entry `i`; a record that is absent or in CAPTURING takes no part. -/
def schedule (c : Ceilings) (i : Fin 9) (im : Image) : Image :=
  match im.recs[i] with
  | none => im
  | some r =>
    if r.capture = .tracking then
      if targetOf c i r = r.applied then { im with queue := dequeue i im.queue }
      else { im with queue := enqueue i (targetOf c i r) im.queue }
    else im

/-- R59, R70: each change of a governing effective ceiling reaches its record; those of one event in
entry order (DEDUCED, log entry 8). -/
def imageReact (before : Ceilings) (s : State) : State :=
  { s with image := (List.finRange 9).foldl (fun im i =>
      if governing before i = governing s.ceil i then im else schedule s.ceil i im) s.image }

/-- Replace entry `i`'s record, if it has one. -/
def Image.updRec (im : Image) (i : Fin 9) (f : LevelRec → LevelRec) : Image :=
  { im with recs := upd im.recs i (Option.map f) }

/-! ## The ceilings an event leaves -/

/-- R44, R50, R52, R56: recompute the raw ceilings from their inputs as they stand, and lower the
effective ceilings they pass. -/
def recompute (s : State) : State :=
  let c := s.ceil
  { s with ceil :=
    { c with
      cRaw := rawSystem s
      eSys := if s.ctl.state.running then min c.eSys (rawSystem s) else 0
      mRaw := Vector.ofFn (fun n => rawModule s n)
      eMod := Vector.ofFn (fun n : Fin 8 =>
        if (s.mods.mods[n]).state = .on then min (c.eMod[n]) (rawModule s n) else 0) } }

/-- R47: judge the unproven mark again. -/
def judgeUnproven (s : State) : State :=
  { s with ceil := { s.ceil with unprovenMark := anyUnproven s.arc } }

/-! ## The port's arbiter (R132 to R134) -/

/-- R134: the class of an access. -/
def Purpose.class : Purpose → Nat
  | .tableRead _ | .writeBack _ | .capture _ => 1
  | .image _ => 2
  | .hostRead | .hostWrite | .hostLevel _ | .stepRead | .stepWrite => 3
  | .recordWord | .snapshotWord => 4

/-- Begin an access: its grant, which is its handoff. -/
def State.begin (s : State) (p : Purpose) (a : Word) (k : AccessKind) : State :=
  { s with port := { s.port with inFlight := some { purpose := p, addr := a, kind := k } } }

/-- Class 1 work left after its head is granted. -/
def State.popClass1 (s : State) (rest : List Class1) : State :=
  { s with port := { s.port with class1 := rest } }

/-- Issue a class 1 access, behind those issued before it (R134). -/
def State.issue (s : State) (c : Class1) : State :=
  { s with port := { s.port with class1 := s.port.class1 ++ [c] } }

/-- The access in flight completes and the port goes idle. -/
def State.portFree (s : State) : State := { s with port := { s.port with inFlight := none } }

/-- The port is free and the reset input is not held. -/
def State.portIdle (s : State) : Bool := !s.resetHeld && s.port.inFlight.isNone

/-- A READ being served has a word not yet read (R127). -/
def State.readOffered (s : State) : Bool :=
  s.link.state == .serving && !s.link.isWrite && s.link.index ≤ s.link.count

/-- The host class's next access is the write of a stepped word (R141). -/
def State.stepOffered (s : State) : Bool := s.stepped.any (fun t => t.preRead.isSome)

/-- A WRITE being served has a word not yet handed off, and no stepped word is under way (R128). -/
def State.wordOffered (s : State) : Bool :=
  s.link.state == .serving && s.link.isWrite && s.link.index ≤ s.link.count && s.stepped.isNone

/-- Class 3 has pending work. -/
def State.hostWork (s : State) : Bool := s.readOffered || s.stepOffered || s.wordOffered

/-- R133: the grants that have no row of their own, made at once when the port is free: a table-load
access, a host read, the write of a stepped word. The grants of a capture read, an image write, a
host word's handoff and a publication write are commands (log entry 3). -/
def settle (s : State) : State :=
  if s.portIdle then
    match s.port.class1 with
    | .tableRead off :: rest =>
      (s.popClass1 rest).begin (.tableRead off) (s.tableAddr off) .read
    | .writeBack off v :: rest =>
      (s.popClass1 rest).begin (.writeBack off) (s.tableAddr off) (.write v)
    | .capture _ _ :: _ => s
    | [] =>
      if s.image.queue = [] then
        match s.stepped with
        | some t =>
          if t.preRead.isSome then s.begin .stepWrite t.addr (.write t.forward) else s
        | none =>
          if s.readOffered then
            ({ s with link := { s.link with index := s.link.index + 1 } }).begin
              .hostRead (s.link.wordAddr s.link.index) .read
          else s
      else s
  else s

/-- R128, R129: the host word the arbiter would hand off now, its address and its value. -/
def State.handoffWord (s : State) : Option (Word × Word) :=
  if s.portIdle && s.port.class1.isEmpty && s.image.queue.isEmpty && s.wordOffered then
    some (s.link.wordAddr s.link.index, s.link.dataWord s.link.index)
  else none

/-! ## The link's response (R131, section 11.5) -/

/-- The outcome word of eight words' outcomes, two bits per word. -/
def outcomeWord (os : List WordOutcome) : Word :=
  word ((os.take 8).zipIdx.foldl (fun a o => a + o.1.code * 4 ^ o.2) 0)

/-- The status code of a served WRITE: the most severe outcome. -/
def worstStatus (os : List WordOutcome) : Word :=
  word (os.foldl (fun a o => max a o.code) 0)

/-- A response ends with the check of the words before it. -/
def withCheck (ws : List Word) : List Word := ws ++ [crc ws]

/-- The link goes to ANSWERING and sends a response. -/
def Link.answer (l : Link) (ws : List Word) : Link :=
  { l with state := .answering, response := withCheck ws }

/-- R128, R131: after a word of a WRITE is disposed of, answer if it was the last. -/
def Link.disposed (l : Link) : Link :=
  if l.state = .serving ∧ l.isWrite ∧ l.count < l.index then
    l.answer [worstStatus l.outcomes, outcomeWord l.outcomes, outcomeWord (l.outcomes.drop 8)]
  else l

/-! ## The conclusion of an event -/

/-- Every event ends so: the ceilings it changed reach the drive image, its records are submitted,
and the arbiter makes the grants that have no row. `before` is the state the event met. -/
def conclude (before : State) (e : Ev) : State :=
  settle (submitAll e.out (imageReact before.ceil e.st))

/-- The same for an event that bears on an input of a raw ceiling (R44). -/
def concludeRaw (before : State) (e : Ev) : State := conclude before (e.upd recompute)

/-- An event that cannot occur in the state it meets changes nothing (log entry 6). -/
def whenever (p : Bool) (s t : State) : Host.Outcome State Fault Refusal :=
  .next (if p then t else s)

end Sys2Proof.Machine
end

