-- ==== Sys2Proof/Machine/Controller.lean ====
section
/-! DEFINITION. The transmit state controller (chapter 6): its transitions, the trip cause set, the
interruption list, and the expiries of its timers. Its commands stand in Machine/HostWords.lean, where
their handoff does. -/

namespace Sys2Proof.Machine

open Sys2Proof Sys2Proof.Config

/-! ## Transitions -/

/-- R120: the STATE record of a transition. -/
def stateDraft (src dst : CtlState) (c : StateCause) : Draft :=
  { kind := .state, subject := src.code, valueA := dst.code, valueB := c.code }

/-- R50, R51, R88, R99, R108, R112: what a change of controller state does to the state. INHIBIT
follows the state; leaving the running states zeroes E_sys and starts the mute settle timer; entering
RESTART sets E_sys from the restart level. -/
def enterState (dst : CtlState) (s : State) : State :=
  let src := s.ctl.state
  let leaving := src.running && !dst.running
  { s with
    ctl := { s.ctl with state := dst, inhibit := !dst.running }
    ceil := { s.ceil with
      eSys := if dst = .restart then min (s.param offRestart) s.ceil.cRaw
              else if leaving then 0 else s.ceil.eSys }
    arc := { s.arc with settle := if leaving then some muteSettleMs else s.arc.settle } }

/-- R120: change the controller's state and submit the STATE record. -/
def transition (dst : CtlState) (c : StateCause) (e : Ev) : Ev :=
  (e.upd (enterState dst)).draft (stateDraft e.st.ctl.state dst c)

/-- R109, R110: set the controller's two timers. -/
def setBlank (t : Timer) (s : State) : State := { s with ctl := { s.ctl with blank := t } }
def setHold (t : Timer) (s : State) : State := { s with ctl := { s.ctl with hold := t } }

/-- R110: the length of a recovery hold started now. -/
def State.holdLength (s : State) : Nat := s.param offSysHold * 100

/-! ## Interruptions (R102 to R106) -/

/-- R102: channel 16's filtered value as it stands. -/
def State.forward (s : State) : Int := (s.meas.chans[16]).filtered

/-- R102: add an entry and submit its INTERRUPTION record. -/
def addInterruption (o : Origin) (e : Ev) : Ev :=
  let s := e.st
  let list := s.ctl.list ++ [{ time := s.ms, origin := o, forward := s.forward }]
  (e.upd (fun s => { s with ctl := { s.ctl with list := list } })).draft
    { kind := .interruption, subject := o.code, valueA := signedWord s.forward,
      valueB := word list.length }

/-- R104: after an addition, the list has reached the lockout count. -/
def State.atLockout (s : State) : Bool := s.param offLockoutCount ≤ s.ctl.list.length

/-- R105: an arc event, taken only in RESTART or RUN. -/
def arcEvent (o : Origin) (e : Ev) : Ev :=
  let e := addInterruption o e
  if e.st.atLockout then transition .lockout (.origin o) e
  else (transition .blank (.origin o) e).upd (fun s => setBlank (some (s.param offBlankTime)) s)

/-- R106: MISMATCH joins in RESTART or RUN. -/
def mismatchInterruption (e : Ev) : Ev :=
  let e := addInterruption .mismatch e
  transition (if e.st.atLockout then .lockout else .tripped) (.origin .mismatch) e

/-! ## The trip cause set (R101) -/

/-- Put a member's mark. -/
def setCause (m : Cause) (b : Bool) (s : State) : State :=
  { s with ctl := { s.ctl with causes := s.ctl.causes.put m b } }

/-- R101, R106, R107, R110: a member joins the set, and the controller reacts by its state. -/
def causeJoin (m : Cause) (e : Ev) : Ev :=
  let e := e.upd (setCause m true)
  match e.st.ctl.state with
  | .restart | .run =>
    if m = .mismatch then mismatchInterruption e else transition .tripped (.cause m) e
  | .tripped => e.upd (setHold none)
  | _ => e

/-- R101, R110: a member leaves the set; in TRIPPED an emptied set starts the recovery hold. -/
def causeLeave (m : Cause) (e : Ev) : Ev :=
  let e := e.upd (setCause m false)
  if e.st.ctl.state = .tripped ∧ e.st.ctl.causes.isEmpty then
    e.upd (fun s => setHold (some s.holdLength) s)
  else e

/-- The owner of a member reports its flag before and after; an unchanged flag reports nothing. -/
def causeChange (m : Cause) (before after : Bool) (e : Ev) : Ev :=
  if before = after then e else if after then causeJoin m e else causeLeave m e

/-! ## Expiries and the removal of old interruptions -/

/-- BLANK_EXPIRY (R109). -/
def execBlankExpiry (s : State) : Host.Outcome State Fault Refusal :=
  whenever (!s.resetHeld && s.ctl.state == .blank && s.ctl.blank.isSome) s <|
    conclude s <| transition (if s.ctl.causes.isEmpty then .restart else .tripped) .blankExpiry <|
      (Ev.of s).upd (setBlank none)

/-- SYSTEM_RECOVERY_HOLD_EXPIRY (R111). -/
def execSystemRecoveryHoldExpiry (s : State) : Host.Outcome State Fault Refusal :=
  whenever (!s.resetHeld && s.ctl.state == .tripped && s.ctl.hold.isSome) s <|
    conclude s <| transition .restart .holdExpiry <| (Ev.of s).upd (setHold none)

/-- R103: the oldest entry's age has reached the interruption window. -/
def State.removalDue (s : State) : Bool :=
  !s.resetHeld && (s.ctl.list.head?).any (aged s.ms (s.param offWindow))

/-- INTERRUPTION_ENTRY_REMOVAL (R103): the oldest entry leaves, and nothing else happens. -/
def execInterruptionEntryRemoval (s : State) : Host.Outcome State Fault Refusal :=
  whenever s.removalDue s <|
    { s with ctl := { s.ctl with list := s.ctl.list.tail } }

/-- R103: the handoff of a new interruption window removes the entries at or past it. -/
def trimInterruptions (s : State) : State :=
  { s with ctl := { s.ctl with
      list := s.ctl.list.filter (fun e => !aged s.ms (s.param offWindow) e) } }

end Sys2Proof.Machine
end

