-- ==== Sys2Proof/Machine/Ceiling.lean ====
section
/-! DEFINITION. The ramp (sections 3.5 and 3.6). What every other event does to the ceilings is
`recompute` in Machine/Ops.lean and `enterState` in Machine/Controller.lean. -/

namespace Sys2Proof.Machine

open Sys2Proof Sys2Proof.Config

/-- R54, R56: one ramp step toward a raw ceiling. -/
def rampUp (step raw eff : Nat) : Nat := if eff < raw then min (eff + step) raw else eff

/-- R53, R54, R56: the expiry reloads the timer and raises the effective ceilings; E_sys only in a
running state, E_mod[n] only of a module in ON. -/
def rampStep (s : State) : State :=
  let step := s.param offRampStep
  let c := s.ceil
  { s with ceil :=
    { c with
      ramp := some (s.param offRampInterval)
      eSys := if s.ctl.state.running then rampUp step c.cRaw c.eSys else c.eSys
      eMod := Vector.ofFn (fun n : Fin 8 =>
        if (s.mods.mods[n]).state = .on then rampUp step c.mRaw[n] c.eMod[n] else c.eMod[n]) } }

/-- R55, R113: in RESTART, an expiry that leaves E_sys equal to C_raw takes the controller to RUN. -/
def ceilingReached (e : Ev) : Ev :=
  if e.st.ctl.state = .restart ∧ e.st.ceil.eSys = e.st.ceil.cRaw then
    transition .run .ceilingReached e
  else e

/-- RAMP_EXPIRY (R53 to R56). -/
def execRampExpiry (s : State) : Host.Outcome State Fault Refusal :=
  whenever (!s.resetHeld && s.ceil.ramp.isSome) s <|
    conclude s <| ceilingReached <| (Ev.of s).upd rampStep

end Sys2Proof.Machine
end

