-- ==== Sys2Proof/Machine/ArcMonitor.lean ====
section
/-! DEFINITION. The arc monitor (chapter 5): the debouncers, the disposal of arc edges, the source
states and the proof test. -/

namespace Sys2Proof.Machine

open Sys2Proof Sys2Proof.Config

/-! ## Pieces of the arc monitor's state -/

def setSource (i : Fin 5) (f : Source → Source) (s : State) : State :=
  { s with arc := { s.arc with sources := upd s.arc.sources i f } }

def setStimulus (i : Fin 5) (b : Bool) (s : State) : State :=
  { s with arc := { s.arc with stimulus := s.arc.stimulus.set i b } }

def setProof (p : Option ProofTest) (t : Timer) (s : State) : State :=
  { s with arc := { s.arc with proof := p, proofTimer := t } }

/-- R91: a change of a source state reaches the ceiling unit, which judges the unproven mark again
(R47) and recomputes the raw ceilings (R44). -/
def setSourceState (i : Fin 5) (st : SourceState) (s : State) : State :=
  recompute (judgeUnproven (setSource i (fun x => { x with state := st }) s))

/-- R93, R94: the PROOF record. -/
def proofDraft (i : Fin 5) (pass : Bool) : Draft :=
  { kind := .proof, subject := word i.val, valueA := if pass then 1 else 0, valueB := 0 }

/-- R89: the SUSPECT record. -/
def suspectDraft (i : Fin 5) : Draft :=
  { kind := .suspect, subject := word i.val, valueA := 0, valueB := 0 }

/-- R87: the origin of a source's arc event. -/
def originOf (i : Fin 5) : Origin := if h : i.val < 4 then .arc ⟨i.val, h⟩ else .surge

/-! ## The disposal of an arc edge (R86) -/

/-- R93: the edge is the proof's PASS. -/
def proofPass (i : Fin 5) (e : Ev) : Ev :=
  (e.upd (fun s =>
    setSourceState i .passed <| setStimulus i false <|
      setProof (some { source := i, phase := .passed }) s.arc.proofTimer s)).draft (proofDraft i true)

/-- R89: an edge with RF long off. -/
def suspectEdge (i : Fin 5) (e : Ev) : Ev :=
  if (e.st.arc.sources[i]).state = .suspect then e
  else (e.upd (setSourceState i .suspect)).draft (suspectDraft i)

/-- R86: the first case that holds decides. -/
def disposeEdge (i : Fin 5) (e : Ev) : Ev :=
  if e.st.arc.proof = some { source := i, phase := .waiting } then proofPass i e
  else if e.st.arc.proof = some { source := i, phase := .passed } then e
  else
    match e.st.ctl.state with
    | .run | .restart => arcEvent (originOf i) e
    | .blank | .start => e
    | .standby | .tripped | .lockout =>
      if e.st.arc.settle.isSome then e else suspectEdge i e

/-! ## The debouncers (R81 to R83) -/

/-- R81, R82: a transition to `level` is an arc edge by the source's polarity; source 4 counts only
rising transitions. -/
def countsEdge (i : Fin 5) (w : Word) (level : Bool) : Bool :=
  if i.val = 4 then level
  else
    match srcPolarity w with
    | .rising => level
    | .falling => !level
    | .both => true

/-- R81: one debounced transition of source `i` to `level`. -/
def debounced (i : Fin 5) (level : Bool) (e : Ev) : Ev :=
  let e := e.upd (setSource i (fun x => { x with accepted := level, change := none }))
  if countsEdge i (e.st.sourceWord i) level then disposeEdge i e else e

/-- R81: source `i`'s input is now at `level`. A pending change begins, timed with the debounce now in
force (R85), or is cancelled; with a debounce of 0 the transition comes at once. A disabled source's
input is not watched. -/
def inputChange (i : Fin 5) (level : Bool) (e : Ev) : Ev :=
  let x := e.st.arc.sources[i]
  if x.state = .disabled then e
  else if level = x.accepted then e.upd (setSource i (fun x => { x with change := none }))
  else if x.change.isSome then e
  else
    let d := srcDebounce (e.st.sourceWord i)
    if d = 0 then debounced i level e
    else e.upd (setSource i (fun x => { x with change := some { level := level, micros := d } }))

/-- R83: start source `i`'s debouncer: no transition occurs. -/
def startDebouncer (i : Fin 5) (s : State) : State :=
  let level := s.inputLevel i
  setSource i (fun x => { x with accepted := level, change := none }) s

/-- PENDING_CHANGE (R81), of an arc line 0..3: the line takes level `high`. -/
def execPendingChange (i : Fin 5) (high : Bool) (s : State) : Host.Outcome State Fault Refusal :=
  whenever (i.val < 4) s <|
    let pinned := { s with arc := { s.arc with lines := s.arc.lines.setIfInBounds i.val high } }
    if s.resetHeld then pinned else conclude s (inputChange i high (Ev.of pinned))

/-- R82: the surge detector input comes to read `r` ru; beyond its full scale it reads full scale. -/
def setSurge (r : Nat) (s : State) : State :=
  { s with arc := { s.arc with surgeInput := min full r } }

/-- SURGE_COMPARATOR_CHANGE (R82): source 4's input level follows the comparator. -/
def execSurgeComparatorChange (r : Nat) (s : State) : Host.Outcome State Fault Refusal :=
  .next <|
    let pinned := setSurge r s
    if s.resetHeld then pinned
    else conclude s (inputChange 4 (pinned.inputLevel 4) (Ev.of pinned))

/-- DEBOUNCED_TRANSITION (R81, R86): the pending change of source `i` has held for its time. -/
def execDebouncedTransition (i : Fin 5) (s : State) : Host.Outcome State Fault Refusal :=
  match (s.arc.sources[i]).change with
  | some p =>
    whenever (!s.resetHeld && (s.arc.sources[i]).state != .disabled) s <|
      conclude s (debounced i p.level (Ev.of s))
  | none => .next s

/-- MUTE_SETTLE_EXPIRY (R88). -/
def execMuteSettleExpiry (s : State) : Host.Outcome State Fault Refusal :=
  whenever (!s.resetHeld && s.arc.settle.isSome) s <|
    { s with arc := { s.arc with settle := none } }

/-! ## The proof test (section 5.5) -/

/-- R92: the result of a PROOF command of source number `n`, and the proof it starts. -/
def startProof (n : Nat) (s : State) : State × CmdResult :=
  if s.ctl.state ≠ .standby then (s, .refusedState)
  else if s.arc.proof.isSome then (s, .refusedBusy)
  else if h : n < 5 then
    if (s.arc.sources[n]).state = .disabled then (s, .refusedSource)
    else
      (setStimulus ⟨n, h⟩ true <|
        setProof (some { source := ⟨n, h⟩, phase := .waiting }) (some (s.param offProofWindow)) s,
        .taken)
  else (s, .refusedSource)

/-- PROOF_TIMER_EXPIRY (R94). -/
def execProofTimerExpiry (s : State) : Host.Outcome State Fault Refusal :=
  match s.arc.proof with
  | none => .next s
  | some p =>
    whenever (!s.resetHeld && s.arc.proofTimer.isSome) s <|
      match p.phase with
      | .waiting =>
        conclude s <| ((Ev.of s).upd (fun s =>
          setSourceState p.source .failed <| setStimulus p.source false <| setProof none none s)).draft
            (proofDraft p.source false)
      | .passed => conclude s <| (Ev.of s).upd (setProof none none)

/-- R95: a proof of source `i` is abandoned without a record. -/
def abandonProof (i : Fin 5) (s : State) : State :=
  if s.arc.proof.any (fun p => p.source == i) then setStimulus i false (setProof none none s) else s

/-! ## Source words (R84, R85) -/

/-- R84: the handoff of source `i`'s word, `old` being the word before and `new` the stored one. The
polarity and the debounce act from the shadow (R85). -/
def applySource (i : Fin 5) (old new : Word) (s : State) : State :=
  if !srcEnable old && srcEnable new then startDebouncer i (setSourceState i .untested s)
  else if srcEnable old && !srcEnable new then
    setSource i (fun x => { x with change := none }) (setSourceState i .disabled (abandonProof i s))
  else s

/-- R80: the arc monitor's start at load completion. -/
def startArc (s : State) : State :=
  (List.finRange 5).foldl (fun s i =>
    if srcEnable (s.sourceWord i) then
      startDebouncer i (setSource i (fun x => { x with state := .untested }) s)
    else s) s

end Sys2Proof.Machine
end

