-- ==== Sys2Proof/Machine/Integrity.lean ====
section
/-! DEFINITION. The integrity checker (section 9.4). -/

namespace Sys2Proof.Machine

open Sys2Proof Sys2Proof.Config

/-- R156: a sweep starts, or starts again, from the first covered word. -/
def startSweep (s : State) : State :=
  { s with checker := { s.checker with sweep := .running offFirstCovered 0xFFFF } }

/-- The stored values a sweep at `position` has still to read, in ascending order. -/
def State.covered (s : State) (position : Nat) : List Word :=
  (List.range' position (offLastShadowed + 1 - position)).map s.word

/-- R157: the verdict a computed check gives. -/
def verdictOf (computed reference : Word) : Verdict :=
  if computed = reference then .agree else .disagree

/-- R46, R157: a change of verdict, with its record and the fallback mark. -/
def changeVerdict (v : Verdict) (computed : Word) (e : Ev) : Ev :=
  if e.st.checker.verdict = v then e
  else
    (e.upd (fun s => recompute
      { s with checker := { s.checker with verdict := v }
               ceil := { s.ceil with fallbackMark := v != .agree } })).draft
      { kind := .verdict, subject := 0, valueA := v.code, valueB := computed }

/-- SWEEP_COMPLETION (R157): the words not yet read are read, and the check is compared. -/
def execSweepCompletion (s : State) : Host.Outcome State Fault Refusal :=
  match s.checker.sweep with
  | .idle => .next s
  | .running position check =>
    whenever (!s.resetHeld) s <|
      let computed := crcFrom check (s.covered position)
      conclude s <| changeVerdict (verdictOf computed (s.word offReference)) computed <|
        (Ev.of s).upd (fun s => { s with checker := { s.checker with sweep := .idle } })

/-- SWEEP_TIMER_EXPIRY (R156). -/
def execSweepTimerExpiry (s : State) : Host.Outcome State Fault Refusal :=
  whenever (!s.resetHeld && s.checker.timer.isSome) s <|
    startSweep { s with checker := { s.checker with timer := some sweepPeriodMs } }

/-- R156: the checker's start at load completion. -/
def startChecker (s : State) : State :=
  startSweep { s with checker := { s.checker with timer := some sweepPeriodMs } }

end Sys2Proof.Machine
end

