-- ==== Sys2Proof/Machine/Publication.lean ====
section
/-! DEFINITION. The publication unit (chapter 10): the status snapshot, the order of publication
writes, the record ring and ALERT. -/

namespace Sys2Proof.Machine

open Sys2Proof Sys2Proof.Config

/-! ## The status block (section 11.3) -/

/-- R160: the content offsets of the status block, in the order they are written. -/
def contentOffsets : List Nat :=
  List.range' 0x201 0x16 ++ List.range' 0x218 0x22 ++ List.range' 0x240 0x64

/-- The trip cause set, one bit per member. -/
def causeWord (c : CauseSet) : Word :=
  (List.finRange 9).foldl (fun w i => w ||| mark (c.chans[i]) i.val)
    (mark c.mismatch 9 ||| mark c.modules 10)

/-- Verdict code and sweep mark. -/
def verdictWord (c : Checker) : Word := c.verdict.code ||| mark (c.sweep != .idle) 8

/-- Last command code and result code. -/
def commandWord (c : Controller) : Word :=
  word ((c.lastCode.getD 0) % 256 + c.lastResult.code * 256)

/-- Two words per module: its state and E_mod. -/
def moduleWord (s : State) (k : Nat) : Word :=
  let n : Fin 8 := Fin.ofNat 8 (k / 2)
  if k % 2 = 0 then (s.mods.mods[n]).state.code else word (s.ceil.eMod[n])

/-- Two words per level entry: requested and applied, or 0 and 0 without a tracking record (R78). -/
def levelWord (s : State) (k : Nat) : Word :=
  match s.image.recs[Fin.ofNat 9 (k / 2)] with
  | some r =>
    if r.capture = .tracking then (if k % 2 = 0 then word r.requested else word r.applied) else 0
  | none => 0

/-- Four words per channel: instant value, filtered value, state and factor. -/
def channelWord (s : State) (k : Nat) : Word :=
  let ch := s.meas.chans[Fin.ofNat 25 (k / 4)]
  match k % 4 with
  | 0 => signedWord ch.instant
  | 1 => signedWord ch.filtered
  | 2 => ch.state.code
  | _ => word ch.factor

/-- Section 11.3: the value of a content word, taken from the state at the issue of its write. The two
time words hold `t`, the counter sampled at the issue of 0x201 (R160). -/
def statusWord (s : State) (t : Time) (off : Nat) : Word :=
  if off = 0x201 then t.extractLsb' 0 16
  else if off = 0x202 then t.extractLsb' 16 16
  else if off = 0x203 then s.ctl.state.code
  else if off = 0x204 then causeWord s.ctl.causes
  else if off = 0x205 then word s.ceil.cRaw
  else if off = 0x206 then word s.ceil.eSys
  else if off = 0x207 then word s.mis.factor
  else if off = 0x208 then word s.mis.q
  else if off = 0x209 then word s.mods.fBal
  else if off = 0x20A then word (s.mods.nOn + s.mods.nPresent * 256)
  else if off = 0x20B then mark s.ceil.fallbackMark 0 ||| mark s.ceil.unprovenMark 1
  else if off = 0x20C then verdictWord s.checker
  else if off = 0x20D then commandWord s.ctl
  else if off = 0x20E then word s.pub.writeIndex.val
  else if off = 0x20F then word s.pub.lost
  else if off = 0x210 then word s.ctl.list.length
  else if off ≤ 0x215 then (s.arc.sources[Fin.ofNat 5 (off - 0x211)]).state.code
  else if off = 0x216 then
    match s.arc.proof with
    | some p => word p.source.val
    | none => noneWord
  else if off < 0x228 then moduleWord s (off - 0x218)
  else if off < 0x23A then levelWord s (off - 0x228)
  else channelWord s (off - 0x240)

/-! ## Snapshots (R160) -/

/-- SNAPSHOT_TIMER_EXPIRY (R160): a snapshot begins, unless one is in progress. The timer reloads. -/
def execSnapshotTimerExpiry (s : State) : Host.Outcome State Fault Refusal :=
  whenever (!s.resetHeld && s.pub.timer.isSome) s <|
    conclude s <| (Ev.of s).upd (fun s =>
      { s with pub := { s.pub with
          timer := some snapshotPeriodMs
          snapshot := some (s.pub.snapshot.getD ⟨0, 0⟩) } })

/-- R160: how many writes a snapshot is: two sequence words and the content words. -/
def snapshotWrites : Nat := contentOffsets.length + 2

/-- R160: the table offset of write `k` of a snapshot. -/
def snapshotOffset (k : Nat) : Nat :=
  if k = 0 then offStatus else contentOffsets[k - 1]?.getD offStatus

/-- R160: the value of write `k` of a snapshot at its issue; the counter is sampled at 0x201. -/
def snapshotValue (s : State) (x : Snapshot) : Word :=
  if x.next = 0 then s.pub.seq + 1
  else if x.next + 1 = snapshotWrites then s.pub.seq + 2
  else statusWord s (if x.next = 1 then s.ms else x.time) (snapshotOffset x.next)

/-- Issue the next word of the snapshot in progress. -/
def grantSnapshot (x : Snapshot) (s : State) : State :=
  let next : Snapshot := { next := x.next + 1, time := if x.next = 1 then s.ms else x.time }
  ({ s with pub := { s.pub with snapshot := some next } }).begin
    .snapshotWord (s.tableAddr (snapshotOffset x.next)) (.write (snapshotValue s x))

/-! ## Records (R161, R163, section 11.4) -/

/-- Word `k`, 0..7, of a record at its issue; the serial is taken then. -/
def recordWord (serial : Word) (r : Record) (k : Nat) : Word :=
  match k with
  | 0 => word r.draft.kind.code
  | 1 => r.time.extractLsb' 0 16
  | 2 => r.time.extractLsb' 16 16
  | 3 => r.draft.subject
  | 4 => r.draft.valueA
  | 5 => r.draft.valueB
  | 6 => r.ctl.code
  | _ => serial

/-- Issue the next word of record `r`, `k` of its words being issued already. -/
def grantRecord (r : Record) (k : Nat) (s : State) : State :=
  ({ s with pub := { s.pub with current := some { record := r, next := k + 1 } } }).begin
    .recordWord (s.tableAddr (offRing + 8 * s.pub.writeIndex.val + k))
    (.write (recordWord s.pub.serial r k))

/-- R161: the first publication write that applies: the record in progress, the head of the FIFO
(which R163 tests against the ring), the snapshot in progress. -/
def grantPublication (s : State) : State :=
  match s.pub.current with
  | some c => if c.next < 8 then grantRecord c.record c.next s else s
  | none =>
    let s := { s with pub := ringTest (s.word offConsumed) s.pub }
    match s.pub.fifo with
    | r :: rest => grantRecord r 0 { s with pub := { s.pub with fifo := rest } }
    | [] =>
      match s.pub.snapshot with
      | some x => if x.next < snapshotWrites then grantSnapshot x s else s
      | none => s

/-- PUBLICATION_WRITE_GRANT (R133, R134, R161): class 4 is granted while no other class has work. -/
def execPublicationWriteGrant (s : State) : Host.Outcome State Fault Refusal :=
  whenever (s.portIdle && s.port.class1.isEmpty && s.image.queue.isEmpty && !s.hostWork) s <|
    conclude s ((Ev.of s).upd grantPublication)

/-- The access in flight is of this purpose, and the reset input is not held. -/
def State.completing (s : State) (p : Purpose) : Bool :=
  !s.resetHeld && s.port.inFlight.any (fun a => a.purpose == p)

/-- R160: the completion of a snapshot write; at the last the sequence count advances and the snapshot
ends. -/
def snapshotDone (p : Publication) : Publication :=
  match p.snapshot with
  | some x =>
    if x.next = snapshotWrites then { p with snapshot := none, seq := p.seq + 2 } else p
  | none => p

/-- SNAPSHOT_WORD_COMPLETION (R160). -/
def execSnapshotWordCompletion (s : State) : Host.Outcome State Fault Refusal :=
  whenever (s.completing .snapshotWord) s <|
    conclude s <| (Ev.of s).upd (fun s => { s.portFree with pub := snapshotDone s.pub })

/-- R164: ALERT at the completion of a record of kind `k`. -/
def alertAfter (alertMask : Word) (k : RecKind) (alert : Bool) : Bool :=
  alert || bit alertMask (k.code - 1)

/-- R163, R164: the completion of a record word; at the eighth the write index and the serial advance,
ALERT is judged and the next head is tested. -/
def recordDone (alertMask consumed : Word) (p : Publication) : Publication :=
  match p.current with
  | some c =>
    if c.next = 8 then
      ringTest consumed
        { p with current := none, writeIndex := p.writeIndex + 1, serial := p.serial + 1,
                 alert := alertAfter alertMask c.record.draft.kind p.alert }
    else p
  | none => p

/-- RECORD_WORD_COMPLETION (R163). -/
def execRecordWordCompletion (s : State) : Host.Outcome State Fault Refusal :=
  whenever (s.completing .recordWord) s <|
    conclude s <| (Ev.of s).upd (fun s =>
      { s.portFree with pub := recordDone (s.word offAlertMask) (s.word offConsumed) s.pub })

/-- R153, R163, R164: a taken consumed index reaches the publication unit. -/
def consumedWritten (v : Word) (p : Publication) : Publication :=
  ringTest v { p with alert := p.alert && p.writeIndex != Fin.ofNat 32 v.toNat }

/-- R158: what load completion sets: the write index and the snapshot timer. -/
def startPublication (s : State) : State :=
  { s with pub := { s.pub with writeIndex := Fin.ofNat 32 (s.word offConsumed).toNat,
                               timer := some snapshotPeriodMs } }

/-- R158: the RESET record. -/
def resetDraft (k : ResetKind) : Draft :=
  { kind := .reset, subject := if k = .powerOn then 1 else 2, valueA := 0, valueB := 0 }

end Sys2Proof.Machine
end

