-- ==== Sys2Proof/Machine/DriveImage.lean ====
section
/-! DEFINITION. The drive image (chapter 4): capture, image writes, and what the handoff of a level
word, of the level enable mask and of its completion do to the level records. -/

namespace Sys2Proof.Machine

open Sys2Proof Sys2Proof.Config

/-- R62, R66: a new record of the address then held in the entry's address word. -/
def newRecord (a : Word) : LevelRec :=
  { addr := a, requested := 0, applied := 0, capture := .capturing, inFlight := .none }

/-- R62, R66: create entry `i`'s record and issue its capture read. -/
def createRecord (s : State) (i : Fin 9) : State :=
  ({ s with image := { s.image with recs := s.image.recs.set i (some (newRecord (s.levelAddr i))) } }).issue
    (.capture i (s.levelAddr i))

/-- R67: remove entry `i`'s record and any image write queued for it. -/
def removeRecord (s : State) (i : Fin 9) : State :=
  { s with image := { recs := s.image.recs.set i none, queue := dequeue i s.image.queue } }

/-- R65 to R67: the drive image's part of a validated mask's handoff: entries now clear are disabled,
then entries now set are enabled, in ascending order of entry. -/
def applyLevelMask (old new : Word) (s : State) : State :=
  let s := (List.finRange 9).foldl (fun s i =>
    if bit old i.val && !bit new i.val then removeRecord s i else s) s
  (List.finRange 9).foldl (fun s i =>
    if bit new i.val && !bit old i.val then createRecord s i else s) s

/-- CAPTURE_READ_GRANT (R62, R66, R133): the head of class 1 is a capture read. -/
def execCaptureReadGrant (s : State) : Host.Outcome State Fault Refusal :=
  match s.port.class1 with
  | .capture i a :: rest =>
    whenever s.portIdle s <| (s.popClass1 rest).begin (.capture i) a .read
  | _ => .next s

/-- R63: seed a record from the memory value `m`. -/
def seedRecord (m : Nat) (r : LevelRec) : LevelRec :=
  { r with requested := min m 4096, applied := m, capture := .tracking }

/-- R70: run the scheduling rule for entry `i`. -/
def reschedule (i : Fin 9) (s : State) : State := { s with image := schedule s.ceil i s.image }

/-- CAPTURE_READ_COMPLETION (R63). -/
def execCaptureReadCompletion (m : Word) (s : State) : Host.Outcome State Fault Refusal :=
  match s.port.inFlight with
  | some { purpose := .capture i, addr := _, kind := _ } =>
    whenever (!s.resetHeld) s <| conclude s <| (Ev.of s).upd (fun s =>
      reschedule i { s.portFree with image := s.image.updRec i (seedRecord m.toNat) })
  | _ => .next s

/-- R71: the head entry `w` leaves the queue and becomes its record's write in flight. -/
def takeHead (w : ImageWrite) (rest : List ImageWrite) (s : State) : State :=
  let im : Image := { s.image with queue := rest }
  { s with image := im.updRec w.entry (fun r => { r with inFlight := .image w.value }) }

/-- IMAGE_WRITE_GRANT (R71, R133): the head entry leaves the queue and its write is issued. -/
def execImageWriteGrant (s : State) : Host.Outcome State Fault Refusal :=
  match s.image.queue with
  | w :: rest =>
    match s.image.recs[w.entry] with
    | some r =>
      whenever (s.portIdle && s.port.class1.isEmpty) s <|
        (takeHead w rest s).begin (.image w.entry) r.addr (.write (word w.value))
    | none => .next s
  | [] => .next s

/-- R72, R75: a write of entry `i`'s level word has completed. -/
def applyWrite (i : Fin 9) (v : Word) (s : State) : State :=
  let done : LevelRec → LevelRec := fun r => { r with applied := v.toNat, inFlight := .none }
  reschedule i { s with image := s.image.updRec i done }

/-- IMAGE_WRITE_COMPLETION (R72). -/
def execImageWriteCompletion (s : State) : Host.Outcome State Fault Refusal :=
  match s.port.inFlight with
  | some { purpose := .image i, addr := _, kind := .write v } =>
    whenever (!s.resetHeld) s <| conclude s <| (Ev.of s).upd (fun s => applyWrite i v s.portFree)
  | _ => .next s

/-- R74: the value forwarded for a host level word of value `w`. -/
def clampLevel (c : Ceilings) (i : Fin 9) (w : Word) : Nat := min (min w.toNat 4096) (governing c i)

/-- R74: the record's part of a host level word's handoff. -/
def takeLevel (i : Fin 9) (w : Word) (s : State) : State :=
  let im : Image := { s.image with queue := dequeue i s.image.queue }
  let take : LevelRec → LevelRec := fun r =>
    { r with requested := min w.toNat 4096, inFlight := .host (clampLevel s.ceil i w) }
  { s with image := im.updRec i take }

end Sys2Proof.Machine
end

