-- ==== Sys2Proof/Machine/Link.lean ====
section
/-! DEFINITION. The link interface (sections 7.1 to 7.3 and 7.5): the words of a frame, the tests of
a complete frame, the stall, the host accesses' completions and the response. -/

namespace Sys2Proof.Machine

open Sys2Proof Sys2Proof.Config

/-- Change the link. -/
def State.updLink (s : State) (f : Link → Link) : State := { s with link := f s.link }

/-- LINK_HEADER (R123): a word with the frame mark arrives in IDLE. -/
def execLinkHeader (w : Word) (s : State) : Host.Outcome State Fault Refusal :=
  whenever (!s.resetHeld && s.link.state == .idle) s <|
    s.updLink (fun _ => { Link.reset with state := .receiving, buf := [w], stall := some stallMs })

/-- FRAME_WORD (R123): a word arrives in RECEIVING before the check position, with or without the
frame mark. -/
def execFrameWord (w : Word) (_mark : Bool) (s : State) : Host.Outcome State Fault Refusal :=
  whenever (!s.resetHeld && s.link.state == .receiving && s.link.position < s.link.checkPosition) s <|
    s.updLink (fun l => { l with buf := l.buf ++ [w] })

/-- DISCARDED_WORD (R124): the word changes no state. -/
def execDiscardedWord (_w : Word) (_mark : Bool) (s : State) : Host.Outcome State Fault Refusal :=
  .next s

/-! ## LINK records (R135) -/

inductive LinkSubject where
  | stall | check | range
deriving DecidableEq, Repr

/-- Section 11.4. -/
def LinkSubject.code : LinkSubject → Word
  | .stall => 1 | .check => 2 | .range => 3

/-- R135: the LINK record of a request. -/
def linkDraft (k : LinkSubject) (l : Link) : Draft :=
  { kind := .link, subject := k.code, valueA := l.addr, valueB := word l.count }

/-- R135: submit a LINK record, unless the controller is in START. -/
def reportLink (k : LinkSubject) (l : Link) (e : Ev) : Ev :=
  if e.st.ctl.state = .start then e else e.draft (linkDraft k l)

/-- STALL_TIMER_EXPIRY (R125): the request is abandoned. -/
def execStallTimerExpiry (s : State) : Host.Outcome State Fault Refusal :=
  whenever (!s.resetHeld && s.link.state == .receiving && s.link.stall.isSome) s <|
    conclude s <| reportLink .stall s.link <| (Ev.of s).upd (fun s => s.updLink (fun _ => Link.reset))

/-! ## The tests of a complete frame (R126) -/

/-- How a complete frame fares. -/
inductive FrameVerdict where
  | refusedCheck | refusedRange | refusedBusy | accepted
deriving DecidableEq, Repr

/-- R126: the three tests in order, `w` being the word at the check position. -/
def judgeFrame (s : State) (w : Word) : FrameVerdict :=
  let l := s.link
  if crc l.buf ≠ w then .refusedCheck
  else if 0xFFFF < l.addr.toNat + (l.count - 1) then .refusedRange
  else if s.ctl.state = .start then .refusedBusy
  else .accepted

/-- R131: a refused request's short response; status codes of section 11.5. -/
def refuse (status : Word) (e : Ev) : Ev := e.upd (fun s => s.updLink (fun l => l.answer [status]))

/-- REQUEST_FRAME (R126): the word at the check position completes the frame. -/
def execRequestFrame (w : Word) (_mark : Bool) (s : State) : Host.Outcome State Fault Refusal :=
  whenever (!s.resetHeld && s.link.state == .receiving && s.link.position == s.link.checkPosition) s <|
    let e := (Ev.of s).upd (fun s => s.updLink (fun l => { l with stall := none }))
    conclude s <|
      match judgeFrame s w with
      | .refusedCheck => reportLink .check s.link (refuse 3 e)
      | .refusedRange => reportLink .range s.link (refuse 4 e)
      | .refusedBusy => refuse 5 e
      | .accepted => e.upd (fun s => s.updLink (fun l => { l with state := .serving, index := 1 }))

/-! ## The completion of host accesses (R127, R128) -/

/-- R127, R131: after the last read, answer with the data. -/
def Link.readDone (l : Link) (v : Word) : Link :=
  let l : Link := { l with readData := l.readData ++ [v] }
  if l.readData.length = l.count then l.answer (0 :: l.readData) else l

/-- HOST_READ_COMPLETION (R127): the value is kept unaltered. -/
def execHostReadCompletion (v : Word) (s : State) : Host.Outcome State Fault Refusal :=
  whenever (s.completing .hostRead) s <|
    conclude s <| (Ev.of s).upd (fun s => s.portFree.updLink (fun l => l.readDone v))

/-- HOST_WRITE_COMPLETION (R128, R141): a forwarded word, or a stepped word's write. -/
def execHostWriteCompletion (s : State) : Host.Outcome State Fault Refusal :=
  whenever (s.completing .hostWrite || s.completing .stepWrite) s <|
    conclude s <| (Ev.of s).upd (fun s =>
      { s.portFree.updLink Link.disposed with
        stepped := if s.completing .stepWrite then none else s.stepped })

/-- HOST_LEVEL_WRITE_COMPLETION (R75, R128). -/
def execHostLevelWriteCompletion (s : State) : Host.Outcome State Fault Refusal :=
  match s.port.inFlight with
  | some { purpose := .hostLevel i, addr := _, kind := .write v } =>
    whenever (!s.resetHeld) s <| conclude s <| (Ev.of s).upd (fun s =>
      applyWrite i v (s.portFree.updLink Link.disposed))
  | _ => .next s

/-- R141: the forwarded value of a stepped word, `c` being the value read and `step` the entry's step. -/
def stepBound (step c w : Nat) : Nat := max (c - step) (min (min 65535 (c + step)) w)

/-- STEP_PRE_READ_COMPLETION (R141): the bounds, the outcome and the write that is offered. -/
def execStepPreReadCompletion (c : Word) (s : State) : Host.Outcome State Fault Refusal :=
  match s.stepped with
  | some t =>
    whenever (s.completing .stepRead) s <|
      let f := word (stepBound (s.param (offGuardC t.entry.val)) c.toNat t.value.toNat)
      conclude s <| (Ev.of s).upd (fun s =>
        { s.portFree.updLink (fun l => { l with outcomes := l.outcomes ++ [outcomeOf t.value f] }) with
          stepped := some { t with preRead := some c, forward := f } })
  | none => .next s

/-- RESPONSE_SENT (R131): the link returns to IDLE. -/
def execResponseSent (s : State) : Host.Outcome State Fault Refusal :=
  whenever (!s.resetHeld && s.link.state == .answering) s <| s.updLink (fun _ => Link.reset)

end Sys2Proof.Machine
end

