-- ==== Sys2Proof/Machine/Supervisor.lean ====
section
/-! DEFINITION. The module supervisor (section 2.3). -/

namespace Sys2Proof.Machine

open Sys2Proof Sys2Proof.Config

/-- R42: the MODULE record of a transition. -/
def moduleDraft (n : Fin 8) (st : ModState) (channel : Word) : Draft :=
  { kind := .module, subject := word n.val, valueA := st.code, valueB := channel }

/-- R37 to R40, R42, R56: one transition of a module's state, with its timer and its record. A module
that enters or leaves ON has its effective ceiling at 0. -/
def setModule (n : Fin 8) (st : ModState) (hold : Timer) (channel : Word) (e : Ev) : Ev :=
  (e.upd (fun s =>
    { s with
      mods := { s.mods with mods := s.mods.mods.set n { state := st, hold := hold } }
      ceil := { s.ceil with eMod := s.ceil.eMod.set n 0 } })).draft (moduleDraft n st channel)

/-- R41, R42: count again after a change of module states, and report a change of MODULES. -/
def rebalance (e : Ev) : Ev :=
  let before := e.st.mods.flag
  let e := e.upd (fun s => { s with mods := recount s.mods })
  causeChange .modules before e.st.mods.flag e

/-- R38: the length of a module recovery hold started now. -/
def State.modHoldLength (s : State) : Nat := s.param offModHold * 100

/-- R22: module `n`'s trip condition. -/
def State.moduleTripped (s : State) (n : Fin 8) : Bool :=
  (s.meas.chans[n.val]).tripFlag || (s.meas.chans[8 + n.val]).tripFlag

/-- R37: a trip flag of module `n`'s channel `c` becomes set. -/
def moduleTripSet (n : Fin 8) (c : Word) (e : Ev) : Ev :=
  match (e.st.mods.mods[n]).state with
  | .on | .recovering => rebalance (setModule n .off none c e)
  | .off | .absent => e

/-- R38: a trip flag of module `n`'s channel `c` becomes clear. -/
def moduleTripClear (n : Fin 8) (c : Word) (e : Ev) : Ev :=
  if e.st.moduleTripped n then e
  else
    match (e.st.mods.mods[n]).state with
    | .off => rebalance (setModule n .recovering (some e.st.modHoldLength) c e)
    | _ => e

/-- MODULE_RECOVERY_HOLD_EXPIRY (R39). -/
def execModuleRecoveryHoldExpiry (n : Fin 8) (s : State) : Host.Outcome State Fault Refusal :=
  whenever (!s.resetHeld && (s.mods.mods[n]).state == .recovering && (s.mods.mods[n]).hold.isSome) s <|
    concludeRaw s <| rebalance <| setModule n .on none noneWord (Ev.of s)

/-- R40: what a new present mask does to module `n`. -/
def presentChange (old new : Word) (e : Ev) (n : Fin 8) : Ev :=
  if bit old n.val && !bit new n.val then setModule n .absent none noneWord e
  else if !bit old n.val && bit new n.val then
    if (e.st.meas.chans[n.val]).tripFlag then setModule n .off none (word n.val) e
    else if (e.st.meas.chans[8 + n.val]).tripFlag then setModule n .off none (word (8 + n.val)) e
    else setModule n .on none noneWord e
  else e

/-- R40: the supervisor's part of a present mask's handoff: every module changed by the write, in
module order, and then the counts once. -/
def applyPresentMask (old new : Word) (e : Ev) : Ev :=
  if old &&& 0x00FF = new &&& 0x00FF then e
  else rebalance ((List.finRange 8).foldl (presentChange old new) e)

/-- R36: the supervisor's start at load completion. It submits no MODULE record. -/
def startModules (s : State) : State :=
  let mask := s.word offPresentMask
  { s with
    mods := recount { s.mods with mods := Vector.ofFn (fun n : Fin 8 =>
      { state := if bit mask n.val then .on else .absent, hold := none }) }
    ceil := { s.ceil with eMod := Vector.replicate 8 0 } }

end Sys2Proof.Machine
end

