-- ==== Sys2Proof/Machine/Measurement.lean ====
section
/-! DEFINITION. The measurement unit and the mismatch evaluator (chapters 1 and 2): sample arrivals,
the flow counter, and what a channel record's handoff does to its channel. -/

namespace Sys2Proof.Machine

open Sys2Proof Sys2Proof.Config

/-- Replace channel `c`'s live state. -/
def setChan (c : Fin 25) (ch : Channel) (s : State) : State :=
  { s with meas := { s.meas with chans := s.meas.chans.set c ch } }

/-- R7, R8, R18: the CHANNEL record of a channel that enters or leaves FAULT. -/
def faultDraft (c : Fin 25) (entered : Bool) : Draft :=
  { kind := .channel, subject := word c.val, valueA := if entered then 1 else 0, valueB := 0 }

/-- R24: submit a CHANNEL record if the channel entered or left FAULT. -/
def reportFault (c : Fin 25) (before after : Bool) (e : Ev) : Ev :=
  if before = after then e else e.draft (faultDraft c after)

/-- R22, R23: a change of channel `c`'s trip flag reaches the module supervisor or the controller. -/
def reportTrip (c : Fin 25) (before after : Bool) (e : Ev) : Ev :=
  if before = after then e
  else if h : c.val < 16 then
    let n : Fin 8 := ⟨c.val % 8, Nat.mod_lt _ (by decide)⟩
    if after then moduleTripSet n (word c.val) e else moduleTripClear n (word c.val) e
  else causeChange (.chan ⟨c.val - 16, by omega⟩) before after e

/-- R4: a channel's new live state, and what it hands on: its FAULT record before the records of the
changes it causes (R162). -/
def changeChan (c : Fin 25) (ch : Channel) (e : Ev) : Ev :=
  let old := e.st.meas.chans[c]
  reportTrip c old.tripFlag ch.tripFlag <|
    reportFault c old.inFault ch.inFault <| e.upd (setChan c ch)

/-! ## The mismatch evaluator -/

/-- R28: what an evaluation reads, as it stands. -/
def State.mismatchInput (s : State) : MismatchInput :=
  { enabled16 := (s.chanCfg 16).enable, enabled17 := (s.chanCfg 17).enable,
    ch16 := s.meas.chans[16], ch17 := s.meas.chans[17],
    faultFactor17 := (s.chanCfg 17).faultFactor, pfMin := s.param offPfMin,
    ra := s.param offRa, qTrip := s.param offQTrip, pm := s.param offPm }

/-- R34: the evaluator's new state, and the change of MISMATCH it hands to the controller. -/
def changeMismatch (m : Mismatch) (e : Ev) : Ev :=
  let before := e.st.mis.flag
  causeChange .mismatch before m.flag (e.upd (fun s => { s with mis := m }))

/-- R28, R29: one mismatch evaluation. -/
def evaluateMismatch (e : Ev) : Ev :=
  changeMismatch (evalMismatch e.st.mismatchInput e.st.mis) e

/-! ## Arrivals -/

/-- R4, R23: a sample of an enabled channel; at channel 17 a mismatch evaluation follows. -/
def arrive (c : Fin 25) (rails : Bool) (raw : Nat) (e : Ev) : Ev :=
  let ch := evalSample (e.st.chanCfg c) rails raw (e.st.meas.chans[c])
  let e := changeChan c ch e
  if c.val = 17 then evaluateMismatch e else e

/-- R1: an arrival is evaluated once the load has completed and the channel is enabled; otherwise it
is discarded. -/
def State.sampling (s : State) (c : Fin 25) : Bool :=
  !s.resetHeld && s.loaded && (s.chanCfg c).enable

/-- SAMPLE_ARRIVAL (R1, R4), for channels 0 to 23. -/
def execSampleArrival (c : Fin 25) (raw : BitVec 12) (s : State) : Host.Outcome State Fault Refusal :=
  whenever (s.sampling c && c.val < 24) s <|
    concludeRaw s <| arrive c true raw.toNat (Ev.of s)

/-- R2: the pulse count, which stays at 65535. -/
def setPulses (n : Nat) (s : State) : State := { s with meas := { s.meas with pulses := n } }

/-- FLOW_PULSE (R2): a pulse of 10 µs or more adds one; before load completion none counts. -/
def execFlowPulse (micros : Nat) (s : State) : Host.Outcome State Fault Refusal :=
  whenever (!s.resetHeld && s.loaded && 10 ≤ micros) s <|
    setPulses (min 65535 (s.meas.pulses + 1)) s

/-- R3: a gate started now has the length the shadow holds, in units of 100 ms. -/
def startGate (s : State) : State :=
  { s with meas := { s.meas with gate := some (s.param offFlowGate * 100) } }

/-- FLOW_GATE_EXPIRY (R3): the pulse count becomes channel 24's sample and the next gate starts. -/
def execFlowGateExpiry (s : State) : Host.Outcome State Fault Refusal :=
  whenever (!s.resetHeld && s.meas.gate.isSome) s <|
    let e := (Ev.of s).upd (fun s => startGate (setPulses 0 s))
    if s.sampling 24 then concludeRaw s (arrive 24 false s.meas.pulses e) else conclude s e

/-! ## Settings (section 1.8) -/

/-- R17 to R20: the handoff of word 0 of channel `c`'s record, `old` being its settings before. The
shadow already holds the new word. -/
def applyChannelWord0 (c : Fin 25) (old : ChanCfg) (e : Ev) : Ev :=
  let new := e.st.chanCfg c
  let ch := e.st.meas.chans[c]
  if !old.enable && new.enable then e.upd (setChan c (startChannel ch))
  else if old.enable && !new.enable then
    let e := changeChan c (stopChannel ch) e
    if c.val = 16 ∨ c.val = 17 then changeMismatch (notComputed 4096) e else e
  else if new.enable then e.upd (setChan c (retuneChannel old new ch))
  else e

/-- R19: the handoff of a fold start, fold stop or fault factor of channel `c`. -/
def applyFoldSetting (c : Fin 25) (e : Ev) : Ev :=
  let cfg := e.st.chanCfg c
  if cfg.enable then e.upd (setChan c (refactor cfg (e.st.meas.chans[c]))) else e

/-- R17 to R21: what the handoff of word `k` of channel `c`'s record does. The trip level, the
hysteresis, the gain and the offset act from the next sample. -/
def applyChannelWord (c : Fin 25) (k : Nat) (old : ChanCfg) (e : Ev) : Ev :=
  match k with
  | 0 => applyChannelWord0 c old e
  | 3 | 4 | 7 => applyFoldSetting c e
  | _ => e

/-- R33: a lowered Pm reduces the mismatch persistence count. -/
def trimMismatch (s : State) : State :=
  { s with mis := { s.mis with count := min s.mis.count (s.param offPm) } }

/-- R26: the measurement unit's start at load completion. -/
def startMeasurement (s : State) : State :=
  startGate { s with meas := { s.meas with chans := Vector.ofFn (fun c : Fin 25 =>
    if (s.chanCfg c).enable then startChannel (s.meas.chans[c]) else s.meas.chans[c]) } }

end Sys2Proof.Machine
end

