-- ==== Sys2Proof/Machine/HostWords.lean ====
section
/-! DEFINITION. The handoff of a host word (R128 to R130): the command word (section 6.9), the
configuration words (section 9.2), level words (R74) and guarded words (section 8.3). The table gives a
handoff several rows; each takes the words of its kind, and all share `takeHostWord`. -/

namespace Sys2Proof.Machine

open Sys2Proof Sys2Proof.Config

/-! ## Commands (R115 to R119) -/

/-- R115: the last command code and result. -/
def setCommand (code : Nat) (r : CmdResult) (s : State) : State :=
  { s with ctl := { s.ctl with lastCode := some code, lastResult := r } }

/-- R116: RESUME's result in a controller state. -/
def resumeResult (s : State) : CmdResult :=
  match s.ctl.state with
  | .standby => if s.arc.proof.isSome then .refusedBusy else .taken
  | .restart | .run => .taken
  | _ => .refusedState

/-- R116: RESUME. -/
def takeResume (e : Ev) : Ev :=
  let r := resumeResult e.st
  let e := e.upd (setCommand 1 r)
  if e.st.ctl.state = .standby ∧ r = .taken then
    transition (if e.st.ctl.causes.isEmpty then .restart else .tripped) .commandResume e
  else e

/-- R117: STANDBY. -/
def takeStandby (e : Ev) : Ev :=
  match e.st.ctl.state with
  | .standby => e.upd (setCommand 2 .taken)
  | .restart | .run => transition .standby .commandStandby (e.upd (setCommand 2 .taken))
  | .blank => transition .standby .commandStandby ((e.upd (setCommand 2 .taken)).upd (setBlank none))
  | .tripped => transition .standby .commandStandby ((e.upd (setCommand 2 .taken)).upd (setHold none))
  | .lockout | .start => e.upd (setCommand 2 .refusedState)

/-- R118: RELEASE. -/
def takeRelease (e : Ev) : Ev :=
  if e.st.ctl.state = .lockout then
    transition .standby .commandRelease <| e.upd (fun s =>
      setCommand 3 .taken { s with ctl := { s.ctl with list := [] } })
  else e.upd (setCommand 3 .refusedState)

/-- R92, R119: PROOF of source number `n`. -/
def takeProof (n : Nat) (e : Ev) : Ev :=
  e.upd (fun s => setCommand 4 (startProof n s).2 (startProof n s).1)

/-- R115: a command word, by its code. -/
def takeCommand (w : Word) (e : Ev) : Ev :=
  match cmdCode w with
  | 0 => e
  | 1 => takeResume e
  | 2 => takeStandby e
  | 3 => takeRelease e
  | 4 => takeProof (cmdSource w) e
  | c => e.upd (setCommand c .unknown)

/-! ## Configuration words (R149) -/

/-- R150's users: what a system parameter's handoff does beyond its storing. The parameters not named
here are read where they act (R3, R33, R53, R58, R88, R95, R104, R109, R110, R164). -/
def applyParam (off : Nat) (old new : Word) (e : Ev) : Ev :=
  if off = offPresentMask then (applyPresentMask old new e).upd recompute
  else if off = offLicence ∨ off = offFallbackCap ∨ off = offUnprovenCap then e.upd recompute
  else if off = offWindow then e.upd trimInterruptions
  else if off = offPm then e.upd trimMismatch
  else if off = offSurgeLevel then inputChange 4 (e.st.inputLevel 4) e
  else e

/-- The shadowed offset of a configuration word. -/
def Target.offset : Target → Option Nat
  | .consumed => some offConsumed
  | .reference => some offReference
  | .param off => some off
  | .levelMask => some offLevelMask
  | .levelAddr i => some (offLevelAddr i.val)
  | .guardMask m => some (offGuardMask m.val)
  | .guardA g => some (offGuardA g.val)
  | .guardB g => some (offGuardB g.val)
  | .guardC g => some (offGuardC g.val)
  | .source i => some (offSource i.val)
  | .channel c k => some (offChannel c.val k.val)
  | _ => none

/-- R149: a taken word of target `t`, stored at `off`, and what each block does with it. `s` is the
state the handoff met. -/
def applyConfig (s : State) (t : Target) (off : Nat) (v : Word) (e : Ev) : Ev :=
  let old := s.word off
  let e := e.upd (fun s => s.store off v)
  match t with
  | .consumed => e.upd (fun s => { s with pub := consumedWritten v s.pub })
  | .param off => applyParam off old v e
  | .levelMask => e.upd (applyLevelMask old v)
  | .source i => e.upd (applySource i old v)
  | .channel c k => (applyChannelWord c k.val (s.chanCfg c) e).upd
      (if k.val = 0 ∨ k.val = 3 ∨ k.val = 4 ∨ k.val = 7 then recompute else id)
  | _ => e

/-- R149, R156: the handoff of a shadowed word starts a sweep, taken or HELD, except the consumed
index's (R153). -/
def sweepAfter (t : Target) (e : Ev) : Ev :=
  if t = .consumed then e else e.upd startSweep

/-! ## What becomes of a word (R129, R130) -/

/-- R130. -/
inductive Disposal where
  /-- No access is made, and the port is free at once. -/
  | held
  /-- A write of `value` is issued. -/
  | forward (value : Word) (purpose : Purpose)
  /-- The pre-read of a word under STEP entry `entry` is issued. -/
  | step (entry : Fin 16)
deriving DecidableEq, Repr

/-- R138 to R141: the action of the deciding guard entry. -/
def guardAction (s : State) (g : Fin 16) (w : Word) : Disposal :=
  let a := s.word (offGuardA g.val)
  match guardKind a with
  | .block => .held
  | .holdMuted => if s.ctl.inhibit then .held else .forward w .hostWrite
  | .holdModuleOff =>
    match (s.mods.mods[guardZone a]).state with
    | .off | .recovering => .held
    | .on | .absent => .forward w .hostWrite
  | .step => .step g

/-- R129: the treatment of a word by its target: what the blocks do at the handoff, and its disposal. -/
def treat (s : State) (t : Target) (w : Word) : Ev × Disposal :=
  let e := Ev.of s
  match t with
  | .partOwned => (e, .held)
  | .command => (takeCommand w e, .forward w .hostWrite)
  | .free | .pass => (e, .forward w .hostWrite)
  | .level i => (e.upd (takeLevel i w), .forward (word (clampLevel s.ceil i w)) (.hostLevel i))
  | .guard g => (e, guardAction s g w)
  | t =>
    match s.judge t w, t.offset with
    | .taken v, some off => (sweepAfter t (applyConfig s t off v e), .forward v .hostWrite)
    | _, _ => (sweepAfter t e, .held)

/-- R128, R130: the link's part of a handoff whose outcome is decided at once. -/
def Link.outcome (l : Link) (o : WordOutcome) : Link :=
  { l with outcomes := l.outcomes ++ [o], index := l.index + 1 }

/-- R130: dispose of the word of value `w` at address `a`. -/
def dispose (a w : Word) (d : Disposal) (s : State) : State :=
  match d with
  | .held => s.updLink (fun l => (l.outcome .held).disposed)
  | .forward v p => (s.updLink (fun l => l.outcome (outcomeOf w v))).begin p a (.write v)
  | .step g =>
    let t : Stepped := { addr := a, value := w, entry := g, preRead := none, forward := w }
    ({ s with stepped := some t }.updLink (fun l => { l with index := l.index + 1 })).begin
      .stepRead a .read

/-- R128 to R130: the handoff of a host word of value `w` at address `a`. -/
def takeHostWord (s : State) (a w : Word) : State :=
  let r := treat s (s.target a) w
  conclude s (r.1.upd (dispose a w r.2))

/-- A row of the table that is the handoff of a host word of one kind: when the arbiter would hand off
such a word now, it is handed off; otherwise the event does not occur (log entry 6). -/
def handoffOf (kind : State → Word → Word → Bool) (s : State) : Host.Outcome State Fault Refusal :=
  match s.handoffWord with
  | some (a, w) => whenever (kind s a w) s (takeHostWord s a w)
  | none => .next s

/-! ## The kinds of the rows -/

/-- A command word whose code is in a range. -/
def isCommand (lo hi : Nat) (s : State) (a w : Word) : Bool :=
  s.target a == .command && lo ≤ cmdCode w && cmdCode w ≤ hi

/-- A word whose target satisfies `p`. -/
def isTarget (p : Target → Bool) (s : State) (a _w : Word) : Bool := p (s.target a)

/-- A source word, judged on the stored word and the validated one. -/
def isSource (p : Word → Word → Bool) (s : State) (a w : Word) : Bool :=
  match s.target a with
  | .source i => p (s.sourceWord i) (validSource w)
  | _ => false

/-- A channel word 0, judged on the stored word and the validated one. -/
def isChannel0 (p : Word → Word → Bool) (s : State) (a w : Word) : Bool :=
  match s.target a with
  | .channel c k => k.val == 0 && p (s.word (offChannel c.val 0)) (validChannel 0 w)
  | _ => false

/-- Word `k` of a channel's record, `k` one of `ks`. -/
def isChannelWord (ks : List Nat) : Target → Bool
  | .channel _ k => ks.contains k.val
  | _ => false

/-- A system parameter at one of the offsets. -/
def isParam (offs : List Nat) : Target → Bool
  | .param off => offs.contains off
  | _ => false

def enables (old new : Word) : Bool := !bit old 0 && bit new 0
def disables (old new : Word) : Bool := bit old 0 && !bit new 0
def staysEnabled (old new : Word) : Bool := bit old 0 && bit new 0

def isSourceSetting : State → Word → Word → Bool := isSource fun old new =>
  staysEnabled old new && (srcPolarity old != srcPolarity new || srcDebounce old != srcDebounce new)

def isDirectionChange : State → Word → Word → Bool := isChannel0 fun old new =>
  staysEnabled old new && chanLow old != chanLow new

def isPersistenceLower : State → Word → Word → Bool := isChannel0 fun old new =>
  staysEnabled old new && chanPers new < chanPers old

def isShiftChange : State → Word → Word → Bool := isChannel0 fun old new =>
  bit old 0 == bit new 0 && chanShift old != chanShift new

def isCalibration (s : State) (a w : Word) : Bool :=
  isTarget (isChannelWord [1, 2]) s a w || isShiftChange s a w

def mismatchParams : List Nat := [offPfMin, offRa, offQTrip, offPm]
def limitParams : List Nat := [offLicence, offFallbackCap, offUnprovenCap]

/-- Every system parameter with a row of its own. -/
def ownParams : List Nat :=
  [offPresentMask, offWindow, offSurgeLevel] ++ mismatchParams ++ limitParams

/-- The word has a row of its own in the table, so it is no WRITE_WORD. -/
def hasOwnRow (s : State) (a w : Word) : Bool :=
  match s.target a with
  | .command | .consumed | .levelMask | .levelAddr _ | .guardA _ | .guardB _ | .guardC _
  | .level _ => true
  | .param off => ownParams.contains off
  | .source _ => isSource enables s a w || isSource disables s a w || isSourceSetting s a w
  | .channel _ k =>
    k.val != 0 || isChannel0 enables s a w || isChannel0 disables s a w ||
      isDirectionChange s a w || isPersistenceLower s a w || isShiftChange s a w
  | .partOwned | .reference | .guardMask _ | .free | .guard _ | .pass => false

/-! ## The rows -/

/-- RESUME (R116). -/
def execResume (s : State) : Host.Outcome State Fault Refusal := handoffOf (isCommand 1 1) s

/-- STANDBY (R117). -/
def execStandby (s : State) : Host.Outcome State Fault Refusal := handoffOf (isCommand 2 2) s

/-- RELEASE (R118). -/
def execRelease (s : State) : Host.Outcome State Fault Refusal := handoffOf (isCommand 3 3) s

/-- PROOF (R92, R119). -/
def execProof (s : State) : Host.Outcome State Fault Refusal := handoffOf (isCommand 4 4) s

/-- COMMAND_NONE (R115). -/
def execCommandNone (s : State) : Host.Outcome State Fault Refusal := handoffOf (isCommand 0 0) s

/-- UNKNOWN_COMMAND (R115). -/
def execUnknownCommand (s : State) : Host.Outcome State Fault Refusal := handoffOf (isCommand 5 255) s

/-- HOST_LEVEL_WORD (R73, R74). -/
def execHostLevelWord (s : State) : Host.Outcome State Fault Refusal :=
  handoffOf (isTarget fun t => match t with
    | .level _ => true
    | _ => false) s

/-- WRITE_WORD (R129): every handoff without a row of its own. -/
def execWriteWord (s : State) : Host.Outcome State Fault Refusal :=
  handoffOf (fun s a w => !hasOwnRow s a w) s

/-- CONSUMED_INDEX_WRITE (R153, R164). -/
def execConsumedIndexWrite (s : State) : Host.Outcome State Fault Refusal :=
  handoffOf (isTarget (· == .consumed)) s

/-- LEVEL_ENABLE_MASK_WRITE (R65 to R67). -/
def execLevelEnableMaskWrite (s : State) : Host.Outcome State Fault Refusal :=
  handoffOf (isTarget (· == .levelMask)) s

/-- LEVEL_ADDRESS_WRITE (R68). -/
def execLevelAddressWrite (s : State) : Host.Outcome State Fault Refusal :=
  handoffOf (isTarget fun t => match t with
    | .levelAddr _ => true
    | _ => false) s

/-- GUARD_WORD_A_WRITE (R143). -/
def execGuardWordAWrite (s : State) : Host.Outcome State Fault Refusal :=
  handoffOf (isTarget fun t => match t with
    | .guardA _ => true
    | _ => false) s

/-- GUARD_BASE_STEP_WRITE (R144). -/
def execGuardBaseStepWrite (s : State) : Host.Outcome State Fault Refusal :=
  handoffOf (isTarget fun t => match t with
    | .guardB _ => true
    | .guardC _ => true
    | _ => false) s

/-- SOURCE_ENABLE (R84). -/
def execSourceEnable (s : State) : Host.Outcome State Fault Refusal := handoffOf (isSource enables) s

/-- SOURCE_DISABLE (R84, R95). -/
def execSourceDisable (s : State) : Host.Outcome State Fault Refusal := handoffOf (isSource disables) s

/-- SOURCE_SETTING_CHANGE (R85). -/
def execSourceSettingChange (s : State) : Host.Outcome State Fault Refusal := handoffOf isSourceSetting s

/-- SURGE_LEVEL_WRITE (R82). -/
def execSurgeLevelWrite (s : State) : Host.Outcome State Fault Refusal :=
  handoffOf (isTarget (isParam [offSurgeLevel])) s

/-- CHANNEL_ENABLE (R17). -/
def execChannelEnable (s : State) : Host.Outcome State Fault Refusal := handoffOf (isChannel0 enables) s

/-- CHANNEL_DISABLE (R18, R28, R29). -/
def execChannelDisable (s : State) : Host.Outcome State Fault Refusal := handoffOf (isChannel0 disables) s

/-- DIRECTION_CHANGE (R19). -/
def execDirectionChange (s : State) : Host.Outcome State Fault Refusal := handoffOf isDirectionChange s

/-- PERSISTENCE_LOWER (R20). -/
def execPersistenceLower (s : State) : Host.Outcome State Fault Refusal := handoffOf isPersistenceLower s

/-- FOLD_SETTING_WRITE (R19). -/
def execFoldSettingWrite (s : State) : Host.Outcome State Fault Refusal :=
  handoffOf (isTarget (isChannelWord [3, 4, 7])) s

/-- TRIP_LEVEL_WRITE (R20). -/
def execTripLevelWrite (s : State) : Host.Outcome State Fault Refusal :=
  handoffOf (isTarget (isChannelWord [5, 6])) s

/-- CALIBRATION_WRITE (R21). -/
def execCalibrationWrite (s : State) : Host.Outcome State Fault Refusal := handoffOf isCalibration s

/-- PRESENT_MASK_WRITE (R40). -/
def execPresentMaskWrite (s : State) : Host.Outcome State Fault Refusal :=
  handoffOf (isTarget (isParam [offPresentMask])) s

/-- MISMATCH_PARAMETER_WRITE (R33). -/
def execMismatchParameterWrite (s : State) : Host.Outcome State Fault Refusal :=
  handoffOf (isTarget (isParam mismatchParams)) s

/-- LIMIT_CAP_WRITE (R48). -/
def execLimitCapWrite (s : State) : Host.Outcome State Fault Refusal :=
  handoffOf (isTarget (isParam limitParams)) s

/-- INTERRUPTION_WINDOW_WRITE (R103). -/
def execInterruptionWindowWrite (s : State) : Host.Outcome State Fault Refusal :=
  handoffOf (isTarget (isParam [offWindow])) s

end Sys2Proof.Machine
end

