-- ==== Sys2Proof/Machine/TableLoad.lean ====
section
/-! DEFINITION. Reset, its release, and the table load (section 9.3). -/

namespace Sys2Proof.Machine

open Sys2Proof Sys2Proof.Config

/-- RESET (R25, R27, R35, R43, R61, R79, R95, R98, R99, R122, R132, R136, R148, R156, R158, R159):
every block returns to its reset state. The input pins keep their levels, and the commands that wait
are not the part's. -/
def execReset (k : ResetKind) (s : State) : Host.Outcome State Fault Refusal :=
  .next { State.reset with
    resetKind := k
    arc := { Arc.reset with lines := s.arc.lines, surgeInput := s.arc.surgeInput }
    pending := s.pending }

/-- R154: issue the load's next read. -/
def issueRead (s : State) : State :=
  { s with loader := { s.loader with next := s.loader.next + 1 } }.issue (.tableRead s.loader.next)

/-- RESET_RELEASE (R147, R154, R159): the straps are sampled and the load begins with the read of
0x001. The millisecond counter runs from its value 0. -/
def execResetRelease (straps : BitVec 4) (s : State) : Host.Outcome State Fault Refusal :=
  whenever s.resetHeld s <| conclude s <| (Ev.of s).upd (fun s =>
    issueRead
      { s with
        resetHeld := false
        straps := straps
        loader := { s.loader with phase := .running, next := 1 } })

/-! ## Load completion (R155) -/

/-- R62: the drive image's start: a record and a capture read for each enabled level entry. -/
def startImage (s : State) : State := applyLevelMask 0 (s.word offLevelMask) s

/-- R53: the ramp timer's start. -/
def startRamp (s : State) : State :=
  { s with ceil := { s.ceil with ramp := some (s.param offRampInterval) } }

/-- R155: load completion, one event handed to every block. The RESET record stands before the
controller's STATE record (R158). -/
def loadComplete (e : Ev) : Ev :=
  let e := e.upd (fun s => { s with loader := { s.loader with phase := .complete } })
  let e := e.upd (fun s =>
    startChecker <| startPublication <| startArc <| startImage <| startRamp <| startModules <|
      startMeasurement s)
  let e := e.draft (resetDraft e.st.resetKind)
  (transition .standby .loadComplete e).upd recompute

/-- R154, R155: after an access of the load completes with no write-back to make, read on or complete. -/
def loadOn (e : Ev) : Ev :=
  if offLastShadowed < e.st.loader.next then loadComplete e else e.upd issueRead

/-- R154: after offset `off`'s value `read` is validated as `valid`, write it back if it differs. -/
def writeBackOr (off : Nat) (read valid : Word) (e : Ev) : Ev :=
  if valid = read then loadOn e else e.upd (fun s => s.issue (.writeBack off valid))

/-- R154: the value `v` read at `off`. The level enable mask is kept as read and judged after the
read of 0x020. -/
def loadWord (off : Nat) (v : Word) (e : Ev) : Ev :=
  if off = offLevelMask then
    loadOn (e.upd (fun s => { s with loader := { s.loader with maskRead := v } }))
  else
    let valid := loadValue off v
    let e := e.upd (fun s => s.store off valid)
    if off = 0x020 then
      let maskRead := e.st.loader.maskRead
      let validMask := validLevelMask e.st 0 maskRead
      writeBackOr offLevelMask maskRead validMask (e.upd (fun s => s.store offLevelMask validMask))
    else writeBackOr off v valid e

/-- The table load runs (R154). -/
def State.loading (s : State) : Bool := !s.resetHeld && s.loader.phase == .running

/-- TABLE_LOAD_READ_COMPLETION (R154). -/
def execTableLoadReadCompletion (v : Word) (s : State) : Host.Outcome State Fault Refusal :=
  match s.port.inFlight with
  | some { purpose := .tableRead off, addr := _, kind := _ } =>
    whenever s.loading s <| conclude s <| loadWord off v ((Ev.of s).upd State.portFree)
  | _ => .next s

/-- WRITE_BACK_COMPLETION (R154). -/
def execWriteBackCompletion (s : State) : Host.Outcome State Fault Refusal :=
  match s.port.inFlight with
  | some { purpose := .writeBack _, addr := _, kind := _ } =>
    whenever s.loading s <| conclude s <| loadOn ((Ev.of s).upd State.portFree)
  | _ => .next s

end Sys2Proof.Machine
end

