-- ==== Sys2Proof/Machine/Dispatch.lean ====
section
/-! DEFINITION. One arm per command: the meaning of each row of spec/opcode_table.json. -/

namespace Sys2Proof.Machine

open Sys2Proof

def exec (i : Instr) (s : State) : Host.Outcome State Fault Refusal :=
  match i with
  | .reset k => Sys2Proof.Machine.execReset k s
  | .resetRelease b => Sys2Proof.Machine.execResetRelease b s
  | .tableLoadReadCompletion v => Sys2Proof.Machine.execTableLoadReadCompletion v s
  | .writeBackCompletion => Sys2Proof.Machine.execWriteBackCompletion s
  | .sampleArrival c r => Sys2Proof.Machine.execSampleArrival c r s
  | .flowPulse t => Sys2Proof.Machine.execFlowPulse t s
  | .flowGateExpiry => Sys2Proof.Machine.execFlowGateExpiry s
  | .moduleRecoveryHoldExpiry n => Sys2Proof.Machine.execModuleRecoveryHoldExpiry n s
  | .rampExpiry => Sys2Proof.Machine.execRampExpiry s
  | .captureReadGrant => Sys2Proof.Machine.execCaptureReadGrant s
  | .captureReadCompletion v => Sys2Proof.Machine.execCaptureReadCompletion v s
  | .imageWriteGrant => Sys2Proof.Machine.execImageWriteGrant s
  | .imageWriteCompletion => Sys2Proof.Machine.execImageWriteCompletion s
  | .hostLevelWord => Sys2Proof.Machine.execHostLevelWord s
  | .hostLevelWriteCompletion => Sys2Proof.Machine.execHostLevelWriteCompletion s
  | .pendingChange src h => Sys2Proof.Machine.execPendingChange src h s
  | .surgeComparatorChange r => Sys2Proof.Machine.execSurgeComparatorChange r s
  | .debouncedTransition src => Sys2Proof.Machine.execDebouncedTransition src s
  | .muteSettleExpiry => Sys2Proof.Machine.execMuteSettleExpiry s
  | .proofTimerExpiry => Sys2Proof.Machine.execProofTimerExpiry s
  | .blankExpiry => Sys2Proof.Machine.execBlankExpiry s
  | .systemRecoveryHoldExpiry => Sys2Proof.Machine.execSystemRecoveryHoldExpiry s
  | .interruptionEntryRemoval => Sys2Proof.Machine.execInterruptionEntryRemoval s
  | .resume => Sys2Proof.Machine.execResume s
  | .standby => Sys2Proof.Machine.execStandby s
  | .release => Sys2Proof.Machine.execRelease s
  | .proof => Sys2Proof.Machine.execProof s
  | .commandNone => Sys2Proof.Machine.execCommandNone s
  | .unknownCommand => Sys2Proof.Machine.execUnknownCommand s
  | .linkHeader w => Sys2Proof.Machine.execLinkHeader w s
  | .frameWord w m => Sys2Proof.Machine.execFrameWord w m s
  | .discardedWord w m => Sys2Proof.Machine.execDiscardedWord w m s
  | .requestFrame w m => Sys2Proof.Machine.execRequestFrame w m s
  | .stallTimerExpiry => Sys2Proof.Machine.execStallTimerExpiry s
  | .hostReadCompletion v => Sys2Proof.Machine.execHostReadCompletion v s
  | .hostWriteCompletion => Sys2Proof.Machine.execHostWriteCompletion s
  | .responseSent => Sys2Proof.Machine.execResponseSent s
  | .writeWord => Sys2Proof.Machine.execWriteWord s
  | .stepPreReadCompletion v => Sys2Proof.Machine.execStepPreReadCompletion v s
  | .consumedIndexWrite => Sys2Proof.Machine.execConsumedIndexWrite s
  | .levelEnableMaskWrite => Sys2Proof.Machine.execLevelEnableMaskWrite s
  | .levelAddressWrite => Sys2Proof.Machine.execLevelAddressWrite s
  | .guardWordAWrite => Sys2Proof.Machine.execGuardWordAWrite s
  | .guardBaseStepWrite => Sys2Proof.Machine.execGuardBaseStepWrite s
  | .sourceEnable => Sys2Proof.Machine.execSourceEnable s
  | .sourceDisable => Sys2Proof.Machine.execSourceDisable s
  | .sourceSettingChange => Sys2Proof.Machine.execSourceSettingChange s
  | .surgeLevelWrite => Sys2Proof.Machine.execSurgeLevelWrite s
  | .channelEnable => Sys2Proof.Machine.execChannelEnable s
  | .channelDisable => Sys2Proof.Machine.execChannelDisable s
  | .directionChange => Sys2Proof.Machine.execDirectionChange s
  | .persistenceLower => Sys2Proof.Machine.execPersistenceLower s
  | .foldSettingWrite => Sys2Proof.Machine.execFoldSettingWrite s
  | .tripLevelWrite => Sys2Proof.Machine.execTripLevelWrite s
  | .calibrationWrite => Sys2Proof.Machine.execCalibrationWrite s
  | .presentMaskWrite => Sys2Proof.Machine.execPresentMaskWrite s
  | .mismatchParameterWrite => Sys2Proof.Machine.execMismatchParameterWrite s
  | .limitCapWrite => Sys2Proof.Machine.execLimitCapWrite s
  | .interruptionWindowWrite => Sys2Proof.Machine.execInterruptionWindowWrite s
  | .sweepCompletion => Sys2Proof.Machine.execSweepCompletion s
  | .sweepTimerExpiry => Sys2Proof.Machine.execSweepTimerExpiry s
  | .snapshotTimerExpiry => Sys2Proof.Machine.execSnapshotTimerExpiry s
  | .publicationWriteGrant => Sys2Proof.Machine.execPublicationWriteGrant s
  | .snapshotWordCompletion => Sys2Proof.Machine.execSnapshotWordCompletion s
  | .recordWordCompletion => Sys2Proof.Machine.execRecordWordCompletion s

end Sys2Proof.Machine
end

