-- ==== Sys2Proof/Machine/TimeBase.lean ====
section
/-! DEFINITION. What the passage of time does when no command waits (R103, R159; log entry 4). -/

namespace Sys2Proof.Machine

open Sys2Proof Sys2Proof.Config

/-- R159: the end of one millisecond. The counter stands at 0 while the reset input is held. -/
def tick (s : State) : State := if s.resetHeld then s else { s with ms := s.ms + 1 }

/-- With no command waiting, time passes: an interruption list entry whose age has reached the window
leaves before the counter moves on (R103: at the moment its age reaches it); otherwise a millisecond
ends (R159). -/
def idle (s : State) : State :=
  if s.removalDue then { s with ctl := { s.ctl with list := s.ctl.list.tail } } else tick s

end Sys2Proof.Machine
end

