-- ==== Sys2Proof/Safety.lean ====
section
/-! DEFINITION. The terms in which claims are made: which blocks a step leaves alone, what a handoff
does at the link and at the port, and the invariants of a safe run. -/

namespace Sys2Proof.Machine

open Sys2Proof Sys2Proof.Config

/-! ## Frames -/

/-- The parts of the state, as the frames of statements name them. -/
inductive Block where
  | reset | time | shadow | loader | checker | meas | mis | mods | ceil | image | arc | ctl | link
  | stepped | port | pub
deriving DecidableEq, Repr

/-- A block is the same in both states. -/
def sameBlock (s t : State) : Block → Prop
  | .reset => t.resetHeld = s.resetHeld ∧ t.resetKind = s.resetKind ∧ t.straps = s.straps
  | .time => t.ms = s.ms
  | .shadow => t.shadow = s.shadow
  | .loader => t.loader = s.loader
  | .checker => t.checker = s.checker
  | .meas => t.meas = s.meas
  | .mis => t.mis = s.mis
  | .mods => t.mods = s.mods
  | .ceil => t.ceil = s.ceil
  | .image => t.image = s.image
  | .arc => t.arc = s.arc
  | .ctl => t.ctl = s.ctl
  | .link => t.link = s.link
  | .stepped => t.stepped = s.stepped
  | .port => t.port = s.port
  | .pub => t.pub = s.pub

/-- `t` differs from `s` in the named blocks at most; the queue of commands is the same. -/
def changesOnly (bs : List Block) (s t : State) : Prop :=
  t.pending = s.pending ∧ ∀ b : Block, b ∉ bs → sameBlock s t b

/-! ## What a handoff does at the port and at the link (R130) -/

/-- A write of `v` for purpose `p` is issued to `a` for the host's word `w`, and the outcome is WRITTEN
exactly when the forwarded value is the one written. -/
def forwarded (s t : State) (a w v : Word) (p : Purpose) : Prop :=
  t.port = { s.port with inFlight := some { purpose := p, addr := a, kind := .write v } } ∧
  t.link = { s.link with
    outcomes := s.link.outcomes ++ [if v = w then WordOutcome.written else WordOutcome.trimmed]
    index := s.link.index + 1 }

/-- The word is HELD: no access is made, and the link answers if it was the request's last word. -/
def heldBack (s t : State) : Prop :=
  t.port = s.port ∧
  t.link = Link.disposed { s.link with
    outcomes := s.link.outcomes ++ [WordOutcome.held], index := s.link.index + 1 }

/-- A checksum sweep has started, or started again; the verdict and the sweep timer are kept (R156). -/
def sweepStarted (s t : State) : Prop :=
  t.checker = { s.checker with sweep := .running 0x003 0xFFFF }

/-- The drafts `ds` are submitted, in order, as the records of an event that leaves `t` (R162, R163). -/
def submitted (ds : List Draft) (s t : State) : Prop :=
  t.pub = (submitAll ds { t with pub := s.pub }).pub

/-- The drive image has reacted to every change of an effective ceiling between `s` and `t`, and to
nothing else (R59, R70). -/
def imageFollows (s t : State) : Prop :=
  t.image = (imageReact s.ceil { t with image := s.image }).image

/-- The ceilings an event leaves when it bears on a raw ceiling: each raw ceiling is made of its inputs
as they stand, and the effective ceilings, which stood at `eSys` and `eMod`, have only fallen (R44, R50,
R52, R56). -/
def ceilingsFollow (eSys : Nat) (eMod : Vector Nat 8) (t : State) : Prop :=
  t.ceil.cRaw = rawSystem t ∧
  t.ceil.eSys = (if t.ctl.state.running = true then min eSys t.ceil.cRaw else 0) ∧
  (∀ n : Fin 8, t.ceil.mRaw[n] = rawModule t n) ∧
  ∀ n : Fin 8, t.ceil.eMod[n] =
    if (t.mods.mods[n]).state = .on then min eMod[n] (t.ceil.mRaw[n]) else 0

/-- The ramp timer and the two marks stand as they did. -/
def marksKept (s t : State) : Prop :=
  t.ceil.ramp = s.ceil.ramp ∧ t.ceil.fallbackMark = s.ceil.fallbackMark ∧
  t.ceil.unprovenMark = s.ceil.unprovenMark

/-- The word stored at offset `off` is now `v`, and no other stored value has changed. -/
def wordStored (off : Nat) (v : Word) (s t : State) : Prop :=
  t.word off = v ∧ ∀ k : Nat, 1 ≤ k → k ≠ off → t.word k = s.word k

/-- A configuration word of value `w` at address `a` is taken with value `v` for offset `off`, and nothing
happens but that: it is stored, forwarded, and a sweep starts (R149). -/
def justStored (off : Nat) (a w v : Word) (s t : State) : Prop :=
  wordStored off v s t ∧ sweepStarted s t ∧ forwarded s t a w v .hostWrite ∧
  changesOnly [.shadow, .checker, .port, .link] s t

/-- A configuration word is HELD: no value is stored and nothing is forwarded, and a sweep starts (R149). -/
def justHeld (s t : State) : Prop :=
  sweepStarted s t ∧ heldBack s t ∧ changesOnly [.checker, .link] s t

/-! ## The trip cause set and the controller (sections 6.2 to 6.6) -/

/-- The STATE cause code of a member of the trip cause set (section 11.2). -/
def memberCode : Cause → Word
  | .mismatch => 7
  | .chan i => word (8 + i.val)
  | .modules => 17

/-- What a change of the trip cause set can move: the controller, the mute settle timer, and the records of
the event so far. -/
structure Reaction where
  ctl : Controller
  settle : Timer
  out : List Draft

/-- The owner of member `m` reports its flag, which was `was` and is `now`, in the event that met `s` (R101).
A flag that has not changed reports nothing. In RESTART and RUN a member that joins takes the controller
to TRIPPED with its STATE record (R107, R120); MISMATCH first adds an interruption list entry with its
INTERRUPTION record, and goes to LOCKOUT at the lockout count (R102, R104, R106); either way INHIBIT is
asserted and the mute settle timer starts (R88, R99, R108). In TRIPPED a member that joins cancels the
recovery hold, and one whose leaving empties the set starts it (R110). Elsewhere only the set changes. -/
def Reaction.member (s : State) (m : Cause) (was now : Bool) (r : Reaction) : Reaction :=
  let causes := r.ctl.causes.put m now
  let forward := (s.meas.chans[16]).filtered
  let list := r.ctl.list ++ [⟨s.ms, .mismatch, forward⟩]
  if was = now then r
  else if now = true ∧ (r.ctl.state = .restart ∨ r.ctl.state = .run) then
    if m = .mismatch then
      let dst : CtlState := if s.param offLockoutCount ≤ list.length then .lockout else .tripped
      { ctl := { r.ctl with state := dst, inhibit := true, causes := causes, list := list }
        settle := some 50
        out := r.out ++ [⟨.interruption, 5, signedWord forward, word list.length⟩,
          ⟨.state, r.ctl.state.code, dst.code, memberCode m⟩] }
    else
      { ctl := { r.ctl with state := .tripped, inhibit := true, causes := causes }
        settle := some 50
        out := r.out ++ [⟨.state, r.ctl.state.code, 5, memberCode m⟩] }
  else
    { r with ctl := { r.ctl with
        causes := causes
        hold := if r.ctl.state = .tripped ∧ now = true then none
          else if r.ctl.state = .tripped ∧ causes.isEmpty = true then some (s.param offSysHold * 100)
          else r.ctl.hold } }

/-- The event that met `s` leaves the controller, the mute settle timer and its records as `r` has them,
and nothing else of the arc monitor has changed. -/
def reacted (r : Reaction) (s t : State) : Prop :=
  t.ctl = r.ctl ∧ t.arc = { s.arc with settle := r.settle } ∧ submitted r.out s t

/-! ## Invariants -/

/-- The arbiter has made every grant that has no row of its own (R133). -/
def settled (s : State) : Prop := settle s = s

/-- Every block but the shadow, the loader, the link and the port is in its reset state, and no request
is served (R27, R35, R43, R61, R79, R98, R126, R158: they stay so until load completion). -/
def resting (s : State) : Prop :=
  s.checker = Checker.reset ∧ s.meas = Measurement.reset ∧ s.mis = Mismatch.reset ∧
  s.mods = Modules.reset ∧ s.ceil = Ceilings.reset ∧ s.image = Image.reset ∧
  s.arc = { Arc.reset with lines := s.arc.lines, surgeInput := s.arc.surgeInput } ∧
  s.ctl = Controller.reset ∧ s.stepped = none ∧ s.pub = Publication.reset ∧
  s.link.state ≠ .serving

/-- The part starts at load completion and not before (R155). -/
def startsAtLoad (s : State) : Prop :=
  (s.resetHeld = true → s.loaded = false) ∧ (s.loaded = false → resting s)

/-- While the reset input is held the part is in its reset state; only the input pins, the reset's kind
and the queue of commands are not the reset's to fix (R25, R27, R35, R43, R61, R79, R98, R122, R132,
R136, R148, R156, R158, R159). -/
def heldInReset (s : State) : Prop :=
  s.resetHeld = true → s =
    { State.reset with
      resetKind := s.resetKind
      arc := { Arc.reset with lines := s.arc.lines, surgeInput := s.arc.surgeInput }
      pending := s.pending }

/-- No two enabled level entries share an address, none names a word of the control table, and the mask
has no bit but the nine entries' (R65, R68). -/
def entriesApart (s : State) : Prop :=
  s.word offLevelMask &&& 0x01FF = s.word offLevelMask ∧
  ∀ i : Fin 9, bit (s.word offLevelMask) i.val = true →
    s.inTable (s.levelAddr i) = false ∧
    ∀ j : Fin 9, bit (s.word offLevelMask) j.val = true → s.levelAddr i = s.levelAddr j → i = j

/-- Every stored value up to offset `n` is one that validation leaves as it is (R149 to R154). -/
def validUpTo (n : Nat) (s : State) : Prop :=
  (∀ off : Nat, 1 ≤ off → off ≤ n → off ≠ offLevelMask → loadValue off (s.word off) = s.word off) ∧
  (0x020 ≤ n → entriesApart s)

/-- The table load goes through the offsets in order, one access at a time, and leaves only valid words
behind it; from load completion on every word of the shadow is valid (R149, R154). -/
def shadowRight (s : State) : Prop :=
  (s.loader.phase = .running →
    2 ≤ s.loader.next ∧ s.loader.next ≤ 0x122 ∧ s.port.class1 = [] ∧
    ∃ a, s.port.inFlight = some a ∧
      (a.purpose = .tableRead (s.loader.next - 1) ∧ validUpTo (s.loader.next - 2) s ∨
        (∃ o, a.purpose = .writeBack o) ∧ validUpTo (s.loader.next - 1) s)) ∧
  (s.loaded = true → validUpTo 0x121 s)

/-- From load completion on there is a level record for each enabled level entry and for no other, and
it holds the address in the entry's address word (R60, R62, R68). -/
def levelsRight (s : State) : Prop :=
  s.loaded = true → ∀ i : Fin 9,
    ((s.image.recs[i]).isSome = bit (s.word offLevelMask) i.val) ∧
    ∀ r, s.image.recs[i] = some r → r.addr = s.levelAddr i

/-- From load completion on, every channel's factor and state are what its settings and its live state
make them, its counts stay within its persistence, a disabled channel holds nothing live, and a channel
that is unseeded or in FAULT is not tripped (R7, R10, R13, R16, R18, section 1.2). -/
def channelsRight (s : State) : Prop :=
  s.loaded = true → ∀ c : Fin 25,
    (s.meas.chans[c]).factor = chanFactor (s.chanCfg c) (s.meas.chans[c]) ∧
    (s.meas.chans[c]).state = chanState (s.chanCfg c) (s.meas.chans[c]) ∧
    (s.meas.chans[c]).railCount ≤ (s.chanCfg c).pers ∧
    (s.meas.chans[c]).persCount ≤ (s.chanCfg c).pers ∧
    ((s.chanCfg c).enable = false →
      (s.meas.chans[c]).unseeded = false ∧ (s.meas.chans[c]).inFault = false ∧
      (s.meas.chans[c]).tripFlag = false) ∧
    ((s.meas.chans[c]).unseeded = true ∨ (s.meas.chans[c]).inFault = true →
      (s.meas.chans[c]).tripFlag = false)

/-- From load completion on, the counts and F_bal are those of the module states, and every module's
state agrees with its trip flags, its timer and the present mask (R37, R38, R40, R41). -/
def modulesRight (s : State) : Prop :=
  s.loaded = true →
    s.mods = recount s.mods ∧
    ∀ n : Fin 8,
      ((s.mods.mods[n]).state ≠ .absent ↔ bit (s.word offPresentMask) n.val = true) ∧
      ((s.mods.mods[n]).state = .on ∨ (s.mods.mods[n]).state = .recovering → s.moduleTripped n = false) ∧
      ((s.mods.mods[n]).state = .off → s.moduleTripped n = true) ∧
      ((s.mods.mods[n]).hold ≠ none ↔ (s.mods.mods[n]).state = .recovering)

/-- The trip cause set has a member exactly while its owner's flag is set (R101). -/
def causesRight (s : State) : Prop :=
  (∀ i : Fin 9, s.ctl.causes.chans[i] = (s.meas.chans[16 + i.val]).tripFlag) ∧
  s.ctl.causes.mismatch = s.mis.flag ∧ s.ctl.causes.modules = s.mods.flag

/-- INHIBIT and E_sys forbid RF wherever the rules do (R50, R99, R101, R110). -/
def rfSafe (s : State) : Prop :=
  s.ctl.inhibit = (s.resetHeld || !s.ctl.state.running) ∧
  (s.ctl.state.running = true → s.ctl.causes.isEmpty = true) ∧
  (s.ctl.state.running = false → s.ceil.eSys = 0) ∧
  s.ceil.eSys ≤ s.ceil.cRaw ∧
  (s.ctl.hold ≠ none → s.ctl.state = .tripped ∧ s.ctl.causes.isEmpty = true)

/-- Every ceiling is what its inputs make it (R43 to R49, R56). -/
def ceilingsRight (s : State) : Prop :=
  s.ceil.cRaw = rawSystem s ∧ (∀ n : Fin 8, s.ceil.mRaw[n] = rawModule s n) ∧
  (∀ n : Fin 8, s.ceil.eMod[n] ≤ s.ceil.mRaw[n]) ∧
  s.ceil.fallbackMark = (s.checker.verdict != .agree) ∧ s.ceil.unprovenMark = anyUnproven s.arc

/-- The image write queue holds one write a record at most, each of a tracking record, and a tracking
record with nothing queued and nothing in flight holds its target (R69, R70). -/
def imageRight (s : State) : Prop :=
  (s.image.queue.map ImageWrite.entry).Nodup ∧
  (∀ e ∈ s.image.queue, ∃ r, s.image.recs[e.entry] = some r ∧ r.capture = .tracking) ∧
  (∀ (i : Fin 9) (r : LevelRec), s.image.recs[i] = some r → r.capture = .tracking →
    r.inFlight = .none → i ∉ s.image.queue.map ImageWrite.entry → r.applied = targetOf s.ceil i r)

/-- The interruption list: at most 8 entries, fewer than 8 outside LOCKOUT, oldest first, none older
than the interruption window (R102, R104). -/
def interruptionsRight (s : State) : Prop :=
  s.param offLockoutCount ≤ 8 ∧ s.param offWindow ≤ 600 ∧
  s.ctl.list.length ≤ 8 ∧ (s.ctl.state ≠ .lockout → s.ctl.list.length < 8) ∧
  (s.ctl.list.map (age s.ms)).Pairwise (fun a b => b ≤ a) ∧
  (∀ e ∈ s.ctl.list, age s.ms e ≤ s.param offWindow * 1000)

/-- The record FIFO and ring: at most 8 records wait, and a record is written only into a slot that is
not the last free one (R158, R163). -/
def recordsRight (s : State) : Prop :=
  s.pub.fifo.length ≤ 8 ∧ s.pub.lost ≤ 65535 ∧
  (s.pub.current ≠ none → ringFull (s.word offConsumed) s.pub = false)

end Sys2Proof.Machine
end

