-- ==== Sys2Proof/Certificates/Slice0/Obligations.lean ====
section
/-! DEFINITION. The statements for the provers, in the order of the spec's chapters: the machine as a
whole, reset and the table load, measurement, mismatch and balance, the ceilings, the drive image, the
arc monitor, the controller and its commands, the passing path, the guard map, the control table, the
publication unit, and the invariants. Most say `exec c s = .next (settle t)`: `t` is what the rules
make of `s`, and `settle` makes the arbiter's grants that have no row (`GrantsFollowTheClasses`). -/

open Sys2Proof Sys2Proof.Machine Sys2Proof.Config

/-! ## The machine -/

/-- The queue of commands is served from its front: a step runs the first command that waits with the
rest of the queue. -/
def Obligations.StepRunsTheFrontCommand : Prop :=
  ∀ (c : Instr) (s : State), step { s with pending := c :: s.pending } = exec c s

/-- The model's choice (log entry 4): on an empty queue time passes. An interruption list entry whose age
has reached the window leaves first (R103); otherwise the counter moves on by one (R159), and it stands
while the reset input is held. No command stops the part, whatever state it meets (log entry 1), none
touches the commands that wait behind it, and none but RESET moves the counter. -/
def Obligations.TimePassesAndEveryCommandCompletes : Prop :=
  (∀ s : State, s.pending = [] →
    (s.resetHeld = true → step s = .next s) ∧
    (s.resetHeld = false →
      (∀ e rest, s.ctl.list = e :: rest → s.param offWindow * 1000 ≤ (s.ms - e.time).toNat →
        step s = .next { s with ctl := { s.ctl with list := rest } }) ∧
      ((∀ e rest, s.ctl.list = e :: rest → (s.ms - e.time).toNat < s.param offWindow * 1000) →
        step s = .next { s with ms := s.ms + 1 }))) ∧
  ∀ (c : Instr) (s : State), ∃ t, exec c s = .next t ∧ t.pending = s.pending ∧
    (t.ms = s.ms ∨ (t.ms = 0 ∧ ∃ k, c = .reset k))

/-- The model's choice (log entry 6): an event that cannot occur in the state it meets changes nothing.
While the reset input is held only RESET, its release and the two input pins act; the release of an input
that is not held does not act; a completion with no access in flight, a handoff while no word is offered,
the general handoff row for a word with a row of its own, and the expiry of an idle timer change
nothing. -/
def Obligations.EventsOutOfPlaceChangeNothing : Prop :=
  ∀ s : State,
    (s.resetHeld = true → ∀ c : Instr,
      (∀ k, c ≠ .reset k) → (∀ b, c ≠ .resetRelease b) → (∀ i h, c ≠ .pendingChange i h) →
      (∀ r, c ≠ .surgeComparatorChange r) → exec c s = .next s) ∧
    (s.resetHeld = false → ∀ b, exec (.resetRelease b) s = .next s) ∧
    (s.port.inFlight = none → ∀ v : Word,
      ∀ c ∈ ([.tableLoadReadCompletion v, .writeBackCompletion, .captureReadCompletion v,
        .imageWriteCompletion, .hostLevelWriteCompletion, .hostReadCompletion v, .hostWriteCompletion,
        .stepPreReadCompletion v, .snapshotWordCompletion, .recordWordCompletion] : List Instr),
      exec c s = .next s) ∧
    (s.handoffWord = none →
      ∀ c ∈ ([.hostLevelWord, .resume, .standby, .release, .proof, .commandNone, .unknownCommand,
        .writeWord, .consumedIndexWrite, .levelEnableMaskWrite, .levelAddressWrite, .guardWordAWrite,
        .guardBaseStepWrite, .sourceEnable, .sourceDisable, .sourceSettingChange, .surgeLevelWrite,
        .channelEnable, .channelDisable, .directionChange, .persistenceLower, .foldSettingWrite,
        .tripLevelWrite, .calibrationWrite, .presentMaskWrite, .mismatchParameterWrite, .limitCapWrite,
        .interruptionWindowWrite] : List Instr),
      exec c s = .next s) ∧
    (∀ a w, s.handoffWord = some (a, w) → hasOwnRow s a w = true → exec .writeWord s = .next s) ∧
    (s.ceil.ramp = none → exec .rampExpiry s = .next s) ∧
    (s.meas.gate = none → exec .flowGateExpiry s = .next s) ∧
    (s.arc.settle = none → exec .muteSettleExpiry s = .next s) ∧
    (s.arc.proof = none ∨ s.arc.proofTimer = none → exec .proofTimerExpiry s = .next s) ∧
    (s.ctl.blank = none → exec .blankExpiry s = .next s) ∧
    (s.ctl.hold = none → exec .systemRecoveryHoldExpiry s = .next s) ∧
    (s.link.stall = none → exec .stallTimerExpiry s = .next s) ∧
    (s.checker.timer = none → exec .sweepTimerExpiry s = .next s) ∧
    (s.checker.sweep = .idle → exec .sweepCompletion s = .next s) ∧
    (s.pub.timer = none → exec .snapshotTimerExpiry s = .next s) ∧
    (∀ n : Fin 8, (s.mods.mods[n]).hold = none → exec (.moduleRecoveryHoldExpiry n) s = .next s) ∧
    ∀ i : Fin 5, (s.arc.sources[i]).change = none → exec (.debouncedTransition i) s = .next s

/-! ## Reset and the table load -/

/-- RESET: what every block holds after either reset, in the figures of R25, R27, R35, R43, R61, R79,
R98, R122, R132, R136, R148, R156, R158 and R159. That the input pins keep their levels is the model's
choice (log entry 5). -/
def Obligations.ResetReturnsEveryBlock : Prop :=
  ∀ (k : ResetKind) (s : State), ∃ t, exec (.reset k) s = .next t ∧
    t.resetHeld = true ∧ t.resetKind = k ∧ t.ms = 0 ∧ (∀ off, t.word off = 0) ∧
    t.loader.phase = .notBegun ∧ t.checker = ⟨.unchecked, .idle, none⟩ ∧
    (∀ c : Fin 25, t.meas.chans[c] = ⟨0, 0, false, 0, 0, false, false, 4096, .disabled⟩) ∧
    t.meas.pulses = 0 ∧ t.meas.gate = none ∧ t.mis = ⟨0, 4096, 0, false⟩ ∧
    (∀ n : Fin 8, t.mods.mods[n] = ⟨.absent, none⟩ ∧ t.ceil.mRaw[n] = 0 ∧ t.ceil.eMod[n] = 0) ∧
    t.mods.nPresent = 0 ∧ t.mods.nOn = 0 ∧ t.mods.fBal = 0 ∧ t.mods.flag = false ∧
    t.ceil.cRaw = 0 ∧ t.ceil.eSys = 0 ∧ t.ceil.ramp = none ∧
    t.ceil.fallbackMark = true ∧ t.ceil.unprovenMark = false ∧
    (∀ i : Fin 9, t.image.recs[i] = none) ∧ t.image.queue = [] ∧
    (∀ i : Fin 5, (t.arc.sources[i]).state = .disabled ∧ (t.arc.sources[i]).change = none ∧
      t.arc.stimulus[i] = false) ∧
    t.arc.proof = none ∧ t.arc.proofTimer = none ∧ t.arc.settle = none ∧
    t.arc.lines = s.arc.lines ∧ t.arc.surgeInput = s.arc.surgeInput ∧
    t.ctl.state = .start ∧ t.ctl.inhibit = true ∧ t.ctl.causes.isEmpty = true ∧ t.ctl.list = [] ∧
    t.ctl.blank = none ∧ t.ctl.hold = none ∧ t.ctl.lastCode = none ∧ t.ctl.lastResult = .none ∧
    t.link.state = .idle ∧ t.link.buf = [] ∧ t.link.stall = none ∧ t.stepped = none ∧
    t.port.inFlight = none ∧ t.port.class1 = [] ∧
    t.pub = ⟨none, none, 0, [], none, 0, 0, 0, false⟩ ∧ t.pending = s.pending

/-- RESET_RELEASE samples the straps and begins the load with the read of 0x001, which a free port takes at
once. TABLE_LOAD_READ_COMPLETION stores the validated value; if it differs from the value read it is
written back, and otherwise the next offset is read. The level enable mask is read in its place but
validated, as an enabling write from an all-clear mask, after the read of 0x020, and its write-back comes
before the read of 0x021. WRITE_BACK_COMPLETION before the last word goes on with the next read (R133,
R147, R154). -/
def Obligations.TableLoadGoesWordByWord : Prop :=
  (∀ (straps : BitVec 4) (s : State), s.resetHeld = true → s.port = ⟨none, []⟩ →
     exec (.resetRelease straps) s = .next
       { s with
         resetHeld := false
         straps := straps
         loader := { s.loader with phase := .running, next := 2 }
         port := ⟨some ⟨.tableRead 1, word (straps.toNat * 0x1000 + 1), .read⟩, []⟩ }) ∧
  (∀ (s : State) (v : Word) (off : Nat) (a : Word) (k : AccessKind),
     s.resetHeld = false → s.loader.phase = .running → s.port = ⟨some ⟨.tableRead off, a, k⟩, []⟩ →
     off ≠ 0x017 → off ≠ 0x020 →
     (loadValue off v ≠ v →
       exec (.tableLoadReadCompletion v) s = .next
         { s.store off (loadValue off v) with
           port := ⟨some ⟨.writeBack off, s.tableAddr off, .write (loadValue off v)⟩, []⟩ }) ∧
     (loadValue off v = v → s.loader.next ≤ 0x121 →
       exec (.tableLoadReadCompletion v) s = .next
         { s.store off v with
           loader := { s.loader with next := s.loader.next + 1 }
           port := ⟨some ⟨.tableRead s.loader.next, s.tableAddr s.loader.next, .read⟩, []⟩ })) ∧
  (∀ (s : State) (v : Word) (a : Word) (k : AccessKind),
     s.resetHeld = false → s.loader.phase = .running → s.loader.next ≤ 0x121 →
     (s.port = ⟨some ⟨.tableRead 0x017, a, k⟩, []⟩ →
       exec (.tableLoadReadCompletion v) s = .next
         { s with
           loader := { s.loader with maskRead := v, next := s.loader.next + 1 }
           port := ⟨some ⟨.tableRead s.loader.next, s.tableAddr s.loader.next, .read⟩, []⟩ }) ∧
     (s.port = ⟨some ⟨.tableRead 0x020, a, k⟩, []⟩ →
       let m := validLevelMask (s.store 0x020 v) 0 s.loader.maskRead
       (m ≠ s.loader.maskRead →
         exec (.tableLoadReadCompletion v) s = .next
           { (s.store 0x020 v).store 0x017 m with
             port := ⟨some ⟨.writeBack 0x017, s.tableAddr 0x017, .write m⟩, []⟩ }) ∧
       (m = s.loader.maskRead →
         exec (.tableLoadReadCompletion v) s = .next
           { (s.store 0x020 v).store 0x017 m with
             loader := { s.loader with next := s.loader.next + 1 }
             port := ⟨some ⟨.tableRead s.loader.next, s.tableAddr s.loader.next, .read⟩, []⟩ }))) ∧
  (∀ (s : State) (off : Nat) (a : Word) (k : AccessKind),
     s.resetHeld = false → s.loader.phase = .running → s.port = ⟨some ⟨.writeBack off, a, k⟩, []⟩ →
     s.loader.next ≤ 0x121 →
     exec .writeBackCompletion s = .next
       { s with
         loader := { s.loader with next := s.loader.next + 1 }
         port := ⟨some ⟨.tableRead s.loader.next, s.tableAddr s.loader.next, .read⟩, []⟩ })

/-- What validation at the load makes of the words read: R150's ranges with a mask of 0 naming all eight
modules and a consumed index above 31 taken as 0 (R154), R151's channel and source words, and the guard
map's words (R145). -/
def Obligations.LoadValidation : Prop :=
  ∀ v : Word,
    (loadValue 0x001 v = if v.toNat ≤ 31 then v else 0) ∧
    loadValue 0x002 v = v ∧
    (loadValue 0x003 v = if v &&& 0x00FF = 0 then 0x00FF else v &&& 0x00FF) ∧
    loadValue 0x013 v = v &&& 0x01FF ∧
    (∀ p ∈ [(0x004, 0, 4096), (0x005, 0, 4096), (0x006, 1, 4096), (0x007, 1, 255), (0x008, 5, 500),
        (0x009, 1, 600), (0x00A, 2, 8), (0x00B, 1, 600), (0x00C, 1, 600), (0x00D, 1, 4096),
        (0x00E, 1, 4096), (0x00F, 1, 4096), (0x010, 1, 15), (0x011, 0, 4096), (0x012, 0, 4096),
        (0x014, 1, 4096), (0x015, 1, 50), (0x016, 1, 100)],
      (loadValue p.1 v).toNat = max p.2.1 (min p.2.2 v.toNat)) ∧
    (∀ i : Fin 9, loadValue (0x018 + i.val) v = v) ∧
    (∀ m : Fin 4, loadValue (0x021 + m.val) v = v) ∧
    (∀ g : Fin 16, loadValue (0x025 + 3 * g.val) v = v &&& 0x00FF ∧
      loadValue (0x026 + 3 * g.val) v = v ∧
      loadValue (0x027 + 3 * g.val) v = if v = 0 then 1 else v) ∧
    (∀ i : Fin 5, loadValue (0x055 + i.val) v =
      if field v 1 2 = 0 then (v &&& 0x001F) ||| 0x0006 else v &&& 0x001F) ∧
    (∀ c : Fin 25, loadValue (0x05A + 8 * c.val) v =
        (if field v 5 4 = 0 then (v &&& 0x01FF) ||| 0x0020 else v &&& 0x01FF) ∧
      (∀ k ∈ [1, 2, 3, 4, 5], loadValue (0x05A + 8 * c.val + k) v = v) ∧
      (loadValue (0x05A + 8 * c.val + 6) v).toNat = min 32767 v.toNat ∧
      (loadValue (0x05A + 8 * c.val + 7) v).toNat = min 4096 v.toNat)

/-- TABLE_LOAD_READ_COMPLETION of the last word with no write-back to make, and WRITE_BACK_COMPLETION
after it: load completion starts every block in one event (R26, R36, R53, R62, R80, R100, R155, R156,
R158), the RESET record standing before the controller's. -/
def Obligations.LoadCompletionStartsEveryBlock : Prop :=
  ∀ (c : Instr) (s u : State) (a : Word) (k : AccessKind),
    startsAtLoad s → s.resetHeld = false → s.loader.phase = .running → s.loader.next = 0x122 →
    ((∃ v, c = .tableLoadReadCompletion v ∧ s.port = ⟨some ⟨.tableRead 0x121, a, k⟩, []⟩ ∧
        loadValue 0x121 v = v ∧ u = s.store 0x121 v) ∨
      (∃ off, c = .writeBackCompletion ∧ s.port = ⟨some ⟨.writeBack off, a, k⟩, []⟩ ∧ u = s)) →
    u.word offPresentMask &&& 0x00FF ≠ 0 →
    ∃ t, exec c s = .next t ∧ t.shadow = u.shadow ∧ t.loader.phase = .complete ∧
      (∀ i : Fin 25, t.meas.chans[i] =
        if (u.chanCfg i).enable = true then ⟨0, 0, true, 0, 0, false, false, 4096, .normal⟩
        else ⟨0, 0, false, 0, 0, false, false, 4096, .disabled⟩) ∧
      t.meas.pulses = 0 ∧ t.meas.gate = some (u.param offFlowGate * 100) ∧ t.mis = s.mis ∧
      (∀ n : Fin 8, t.mods.mods[n] =
        ⟨if bit (u.word offPresentMask) n.val = true then .on else .absent, none⟩) ∧
      t.mods.nOn = t.mods.nPresent ∧ t.mods.fBal = 4096 ∧ t.mods.flag = false ∧
      ceilingsFollow 0 (Vector.replicate 8 0) t ∧ t.ceil.ramp = some (u.param offRampInterval) ∧
      t.ceil.fallbackMark = true ∧ t.ceil.unprovenMark = false ∧
      (∀ i : Fin 9, t.image.recs[i] =
        if bit (u.word offLevelMask) i.val = true then some ⟨u.levelAddr i, 0, 0, .capturing, .none⟩
        else none) ∧
      t.image.queue = [] ∧
      t.port = ⟨none, ((List.finRange 9).filter fun i => bit (u.word offLevelMask) i.val).map
        fun i => .capture i (u.levelAddr i)⟩ ∧
      (∀ i : Fin 5, (t.arc.sources[i]).change = none ∧
        if srcEnable (u.sourceWord i) = true then
          (t.arc.sources[i]).state = .untested ∧ (t.arc.sources[i]).accepted = u.inputLevel i
        else (t.arc.sources[i]).state = .disabled) ∧
      t.arc.proof = none ∧ t.arc.settle = none ∧
      t.ctl = { s.ctl with state := .standby, inhibit := true } ∧
      t.checker = ⟨.unchecked, .running 0x003 0xFFFF, some 1000⟩ ∧
      t.pub.timer = some 100 ∧ t.pub.writeIndex = Fin.ofNat 32 (u.param offConsumed) ∧
      t.pub.fifo = [⟨⟨.reset, if s.resetKind = .powerOn then 1 else 2, 0, 0⟩, s.ms, .standby⟩,
        ⟨⟨.state, 0, 1, 1⟩, s.ms, .standby⟩] ∧
      t.pub.current = none ∧ t.pub.lost = 0 ∧
      changesOnly [.shadow, .loader, .checker, .meas, .mods, .ceil, .image, .arc, .ctl, .port, .pub] s t

/-! ## Measurement (chapter 1) -/

/-- SAMPLE_ARRIVAL: a sample that arrives while the reset input is held, before load completion or for a
disabled channel is discarded, and changes nothing at all (R1). A sample of an enabled channel is
evaluated whole, as one event: it replaces that channel's live state and no other's, the ceilings follow
their inputs, and only the blocks the channel feeds may change (R4, R23, R44). -/
def Obligations.SamplesOfEnabledChannelsAreEvaluated : Prop :=
  (∀ (c : Fin 25) (raw : BitVec 12) (s : State), c.val < 24 →
     (s.resetHeld = true ∨ s.loaded = false ∨ (s.chanCfg c).enable = false) →
     exec (.sampleArrival c raw) s = .next s) ∧
  (∀ (c : Fin 25) (raw : BitVec 12) (s : State), c.val < 24 →
     s.resetHeld = false → s.loaded = true → (s.chanCfg c).enable = true →
     ∃ t, exec (.sampleArrival c raw) s = .next (settle t) ∧
       t.meas = { s.meas with
         chans := s.meas.chans.set c (evalSample (s.chanCfg c) true raw.toNat s.meas.chans[c]) } ∧
       ceilingsFollow s.ceil.eSys s.ceil.eMod t ∧ marksKept s t ∧ imageFollows s t ∧
       (c.val ≠ 17 → t.mis = s.mis) ∧ (16 ≤ c.val → t.mods = s.mods) ∧
       t.arc = { s.arc with settle := t.arc.settle } ∧
       changesOnly [.meas, .mis, .mods, .ceil, .image, .arc, .ctl, .pub] s t)

/-- A rail sample adds to the rail count and changes nothing else, except that a channel not in FAULT whose
rail count comes to its persistence enters FAULT; no value of a flow sample is a rail sample (R6, R7).
Leaving FAULT and seeding: the first sample that is no rail sample sets the filtered value to the instant
value without a filter step, clears both marks, and the factor is computed from it (R8, R10).
Every sample that is no rail sample sets the rail count to 0, in FAULT or not, and leaves the channel
seeded and out of FAULT; of a channel that was both already, it moves the filtered value one filter step
(R6, R9). -/
def Obligations.RailSamplesAndSeeding : Prop :=
  (∀ (cfg : ChanCfg) (ch : Channel) (raw : Nat), raw = 0 ∨ raw = 4095 →
     (ch.inFault = true ∨ min cfg.pers (ch.railCount + 1) ≠ cfg.pers →
       evalSample cfg true raw ch = { ch with railCount := min cfg.pers (ch.railCount + 1) }) ∧
     (ch.inFault = false → min cfg.pers (ch.railCount + 1) = cfg.pers →
       evalSample cfg true raw ch =
         { ch with railCount := cfg.pers, persCount := 0, tripFlag := false, inFault := true,
                   factor := cfg.faultFactor, state := .fault }) ∧
     (evalSample cfg false raw ch).instant = convert raw cfg.gain cfg.offset) ∧
  (∀ (cfg : ChanCfg) (rails : Bool) (r : Nat) (ch : Channel),
     (rails = false ∨ (r ≠ 0 ∧ r ≠ 4095)) → (ch.inFault = true ∨ ch.unseeded = true) →
     let x := convert r cfg.gain cfg.offset
     let n := evalSample cfg rails r ch
     n.instant = x ∧ n.filtered = x ∧ n.inFault = false ∧ n.unseeded = false ∧ n.railCount = 0 ∧
     n.factor = (if cfg.low = true then factorLow cfg.foldStart cfg.foldStop x
       else factorHigh cfg.foldStart cfg.foldStop x) ∧
     (n.tripFlag, n.persCount) = judgeTrip cfg ch.tripFlag ch.persCount x) ∧
  (∀ (cfg : ChanCfg) (rails : Bool) (r : Nat) (ch : Channel),
     rails = false ∨ (r ≠ 0 ∧ r ≠ 4095) →
     let x := convert r cfg.gain cfg.offset
     let n := evalSample cfg rails r ch
     n.railCount = 0 ∧ n.inFault = false ∧ n.unseeded = false ∧
     (ch.inFault = false → ch.unseeded = false → n.filtered = filterStep cfg.shift x ch.filtered))

/-- R5: the conversion rounds to nearest with a half rounded up, holds every product within 32 bits,
adds the offset and saturates. A sample that is no rail sample replaces the instant value with it; a
rail sample does not. -/
def Obligations.ConversionRoundsAndSaturates : Prop :=
  (∀ r g : Nat, g ≤ 65535 →
    (r ≤ 4095 → r * g + 2048 ≤ 268367873 ∧ (r * g + 2048) / 4096 ≤ 65519) ∧
    (r ≤ 65535 → r * g + 2048 ≤ 4294838273 ∧ 4294838273 < 2 ^ 32 ∧
      (r * g + 2048) / 4096 ≤ 1048544)) ∧
  (∀ (r g : Nat) (o : Int),
    let q : Int := ((r * g + 2048) / 4096 : Nat)
    (-2048 < 4096 * q - r * g ∧ 4096 * q - r * g ≤ 2048) ∧
    (-32768 ≤ q + o → q + o ≤ 32767 → convert r g o = q + o) ∧
    (32767 < q + o → convert r g o = 32767) ∧ (q + o < -32768 → convert r g o = -32768)) ∧
  (∀ (r : Nat) (o : Int), -32768 ≤ o → o ≤ 32767 → convert r 0 o = o) ∧
  (∀ (cfg : ChanCfg) (rails : Bool) (r : Nat) (ch : Channel),
    (evalSample cfg rails r ch).instant =
      if rails = true ∧ (r = 0 ∨ r = 4095) then ch.instant else convert r cfg.gain cfg.offset)

/-- R9: at a sample of a channel that is neither leaving FAULT nor unseeded the filter moves by
ceil(|d| / 2^k) with the sign of d. It does not pass the instant value, always moves while there is a
distance, and reaches a steady instant value in finitely many samples and stays there. A new filter
shift moves nothing at its handoff. -/
def Obligations.FilterMovesAndNeverOvershoots : Prop :=
  (∀ (cfg : ChanCfg) (rails : Bool) (r : Nat) (ch : Channel), rails = false ∨ (r ≠ 0 ∧ r ≠ 4095) →
    ch.inFault = false → ch.unseeded = false →
    (evalSample cfg rails r ch).filtered =
      filterStep cfg.shift (convert r cfg.gain cfg.offset) ch.filtered) ∧
  (∀ (k : Nat) (x v : Int),
    let m : Nat := ((x - v).natAbs + (2 ^ k - 1)) / 2 ^ k
    (m * 2 ^ k < (x - v).natAbs + 2 ^ k ∧ (x - v).natAbs ≤ m * 2 ^ k) ∧
    (x = v → filterStep k x v = v) ∧
    (v < x → filterStep k x v = v + m ∧ v + 1 ≤ filterStep k x v ∧ filterStep k x v ≤ x) ∧
    (x < v → filterStep k x v = v - m ∧ filterStep k x v ≤ v - 1 ∧ x ≤ filterStep k x v) ∧
    filterStep 0 x v = x ∧
    (-32768 ≤ x → x ≤ 32767 → -32768 ≤ v → v ≤ 32767 → -65535 ≤ x - v ∧ x - v ≤ 65535 ∧
      -32768 ≤ filterStep k x v ∧ filterStep k x v ≤ 32767) ∧
    ∃ n : Nat, (filterStep k x)^[n] v = x) ∧
  (∀ (old new : ChanCfg) (ch : Channel), (retuneChannel old new ch).filtered = ch.filtered)

/-- R11 and R12: the factor is 4096 up to the fold start, 0 from the fold stop on, on a straight line
between them rounded down, a step when the two are in the wrong order; and it never rises as the
quantity gets worse. -/
def Obligations.FactorFoldsBack : Prop :=
  ∀ s t : Int,
    (s < t →
      (∀ v : Int, v ≤ s → factorHigh s t v = 4096) ∧ (∀ v : Int, t ≤ v → factorHigh s t v = 0) ∧
      ∀ v : Int, s < v → v < t → 0 ≤ t - v ∧ 0 < t - s ∧
        (factorHigh s t v : Int) = 4096 * (t - v) / (t - s)) ∧
    (t ≤ s →
      (∀ v : Int, v < t → factorHigh s t v = 4096) ∧ ∀ v : Int, t ≤ v → factorHigh s t v = 0) ∧
    (∀ v w : Int, v ≤ w → factorHigh s t w ≤ factorHigh s t v ∧ factorHigh s t v ≤ 4096) ∧
    (t < s →
      (∀ v : Int, s ≤ v → factorLow s t v = 4096) ∧ (∀ v : Int, v ≤ t → factorLow s t v = 0) ∧
      ∀ v : Int, t < v → v < s → (factorLow s t v : Int) = 4096 * (v - t) / (s - t)) ∧
    (s ≤ t →
      (∀ v : Int, t < v → factorLow s t v = 4096) ∧ ∀ v : Int, v ≤ t → factorLow s t v = 0) ∧
    ∀ v w : Int, v ≤ w → factorLow s t v ≤ factorLow s t w ∧ factorLow s t w ≤ 4096

/-- R14, and its mirror R15 for direction LOW: a clear flag sets at the P-th consecutive sample at or
beyond the trip level; a set flag clears at a sample that meets the release level, with the count set to
0; a flag once cleared needs P fresh samples; and every sample that is evaluated is judged so on its
instant value. -/
def Obligations.TripJudgement : Prop :=
  ∀ cfg : ChanCfg, 1 ≤ cfg.pers → -32768 ≤ cfg.tripLevel → cfg.tripLevel ≤ 32767 →
    (∀ (count : Nat) (x : Int),
      let beyond := if cfg.low = true then x ≤ cfg.tripLevel else cfg.tripLevel ≤ x
      let release := if cfg.low = true then min 32767 (cfg.tripLevel + cfg.hyst)
        else max (-32768) (cfg.tripLevel - cfg.hyst)
      let good := if cfg.low = true then release ≤ x else x ≤ release
      let n := if beyond then min cfg.pers (count + 1) else 0
      judgeTrip cfg false count x = (decide (n = cfg.pers), n) ∧
      (good → judgeTrip cfg true count x = (false, 0)) ∧
      (¬good → judgeTrip cfg true count x = (true, n))) ∧
    (∀ xs : List Int, xs.length < cfg.pers →
      (xs.foldl (fun p x => judgeTrip cfg p.1 p.2 x) (false, 0)).1 = false) ∧
    ∀ (rails : Bool) (r : Nat) (ch : Channel), rails = false ∨ (r ≠ 0 ∧ r ≠ 4095) →
      ((evalSample cfg rails r ch).tripFlag, (evalSample cfg rails r ch).persCount) =
        judgeTrip cfg ch.tripFlag ch.persCount (convert r cfg.gain cfg.offset)

/-- SAMPLE_ARRIVAL of a system channel 16 to 23, and FLOW_GATE_EXPIRY for channel 24. One that enters or leaves
FAULT submits a CHANNEL record. Its trip flag is a member of the trip cause set. It joins at the sample
that sets it: in RESTART and RUN the controller goes to TRIPPED with the common effects of leaving a
running state, in TRIPPED a running recovery hold is cancelled, and elsewhere nothing more happens. It
leaves at the sample that clears it, and in TRIPPED the recovery hold starts if the set is then empty
(R7, R8, R23, R24, R101, R107, R108, R110, R120). At channel 17 this is all the controller does while the
evaluation that follows leaves MISMATCH as it was; where it does not, its reaction to MISMATCH follows
(`Channel17ArrivalsEvaluateMismatch`). -/
def Obligations.SystemChannelTripsReachTheController : Prop :=
  ∀ (cmd : Instr) (c : Fin 25) (i : Fin 9) (new : Channel) (s : State), c.val = 16 + i.val →
    s.resetHeld = false → s.loaded = true → (s.chanCfg c).enable = true →
    (∃ raw : BitVec 12, c.val < 24 ∧ cmd = .sampleArrival c raw ∧
        new = evalSample (s.chanCfg c) true raw.toNat s.meas.chans[c]) ∨
      (c = 24 ∧ cmd = .flowGateExpiry ∧ s.meas.gate ≠ none ∧
        new = evalSample (s.chanCfg c) false s.meas.pulses s.meas.chans[c]) →
    let old := s.meas.chans[c]
    let causes := s.ctl.causes.put (.chan i) new.tripFlag
    let fault : List Draft := if new.inFault = old.inFault then []
      else [⟨.channel, word c.val, if new.inFault = true then 1 else 0, 0⟩]
    let running := s.ctl.state = .restart ∨ s.ctl.state = .run
    ∃ t, exec cmd s = .next (settle t) ∧ t.meas.chans = s.meas.chans.set c new ∧
      (c.val ≠ 17 → t.mis = s.mis) ∧
      (t.mis.flag = s.mis.flag →
        (new.tripFlag = old.tripFlag → t.ctl = s.ctl ∧ t.arc = s.arc ∧ submitted fault s t) ∧
        (old.tripFlag = false → new.tripFlag = true → running →
          t.ctl = { s.ctl with state := .tripped, inhibit := true, causes := causes } ∧
          t.ceil.eSys = 0 ∧ t.arc = { s.arc with settle := some 50 } ∧
          submitted (fault ++ [⟨.state, s.ctl.state.code, 5, word (8 + i.val)⟩]) s t) ∧
        (new.tripFlag ≠ old.tripFlag → ¬(new.tripFlag = true ∧ running) →
          t.ctl = { s.ctl with
            causes := causes
            hold := if s.ctl.state = .tripped ∧ new.tripFlag = true then none
              else if s.ctl.state = .tripped ∧ causes.isEmpty = true
                then some (s.param offSysHold * 100) else s.ctl.hold } ∧
          t.arc = s.arc ∧ submitted fault s t))

/-- FLOW_PULSE: from load completion on a pulse of 10 µs or more adds one to the pulse count, which stays at
65535; a shorter pulse, and any pulse before load completion, is ignored (R2). FLOW_GATE_EXPIRY: the
pulse count becomes channel 24's sample, the count is set to 0 and the next gate starts with the length
the shadow then holds, whether channel 24 is enabled or not (R3). -/
def Obligations.FlowPulsesAndGates : Prop :=
  ((∀ (micros : Nat) (s : State),
     (s.resetHeld = false → s.loaded = true → 10 ≤ micros →
       exec (.flowPulse micros) s = .next
         { s with meas := { s.meas with
             pulses := if s.meas.pulses < 65535 then s.meas.pulses + 1 else 65535 } }) ∧
     (micros < 10 ∨ s.loaded = false → exec (.flowPulse micros) s = .next s)) ∧
   ∀ (k : ResetKind) (s : State), ∃ t, exec (.reset k) s = .next t ∧ t.meas.pulses = 0) ∧
  (∀ s : State, s.resetHeld = false → s.meas.gate ≠ none →
     ((s.chanCfg 24).enable = false ∨ s.loaded = false →
       exec .flowGateExpiry s = .next (settle
         { s with meas :=
           { s.meas with pulses := 0, gate := some (s.param offFlowGate * 100) } })) ∧
     ((s.chanCfg 24).enable = true → s.loaded = true →
       ∃ t, exec .flowGateExpiry s = .next (settle t) ∧
         t.meas = { chans := s.meas.chans.set 24
                      (evalSample (s.chanCfg 24) false s.meas.pulses s.meas.chans[24])
                    pulses := 0, gate := some (s.param offFlowGate * 100) } ∧
         ceilingsFollow s.ceil.eSys s.ceil.eMod t ∧ marksKept s t ∧ imageFollows s t ∧
         t.arc = { s.arc with settle := t.arc.settle } ∧
         changesOnly [.meas, .ceil, .image, .arc, .ctl, .pub] s t))

/-! ## Mismatch and module balance (chapter 2) -/

/-- R30: the ratio and the factor of an evaluation that judges, with the figures that bound them; F_mis is
4096 up to the allowance, never rises with q, and equals the allowance where all power returns. -/
def Obligations.MismatchRatioAndFactor : Prop :=
  (∀ (i : MismatchInput) (m : Mismatch),
    i.enabled16 = true → i.enabled17 = true → i.ch16.inFault = false → i.ch17.inFault = false →
    i.ch16.unseeded = false → i.ch17.unseeded = false → 1 ≤ i.pfMin → (i.pfMin : Int) ≤ i.ch16.filtered →
    let q := (evalMismatch i m).q
    evalMismatch i m = judgeMismatch i m ∧
    (q : Int) = min 4096 (max i.ch17.filtered 0 * 4096 / i.ch16.filtered) ∧
    (q = 0 → (evalMismatch i m).factor = 4096) ∧
    (q ≠ 0 → (evalMismatch i m).factor = min 4096 (i.ra * 4096 / q)) ∧
    (i.ch17.filtered ≤ 32767 → max i.ch17.filtered 0 * 4096 ≤ 134213632)) ∧
  ∀ ra : Nat, 1 ≤ ra → ra ≤ 4096 →
    ra * 4096 ≤ 16777216 ∧ (∀ q, q ≤ ra → mismatchFactor ra q = 4096) ∧
    (∀ p q, p ≤ q → mismatchFactor ra q ≤ mismatchFactor ra p) ∧ mismatchFactor ra 4096 = ra

/-- The four cases in which the ratio is not computed, in order: each sets q and the count to 0 and clears
MISMATCH (R29). An evaluation that judges: the count of consecutive evaluations at or above q_trip, the
setting of a clear MISMATCH at Pm, and the release of a set one at three quarters of q_trip, with the
count set to 0; a cleared flag needs Pm fresh evaluations (R31, R32). -/
def Obligations.MismatchJudgement : Prop :=
  (∀ (i : MismatchInput) (m : Mismatch),
     let disabled := i.enabled16 = false ∨ i.enabled17 = false
     let fault := i.ch16.inFault = true ∨ i.ch17.inFault = true
     let other := i.ch16.unseeded = true ∨ i.ch17.unseeded = true ∨ i.ch16.filtered < i.pfMin
     (disabled → evalMismatch i m = ⟨0, 4096, 0, false⟩) ∧
     (¬disabled → fault → evalMismatch i m = ⟨0, i.faultFactor17, 0, false⟩) ∧
     (¬disabled → ¬fault → other → evalMismatch i m = ⟨0, 4096, 0, false⟩)) ∧
  ((∀ (i : MismatchInput) (m : Mismatch),
     let q := reflectionRatio i.ch16.filtered i.ch17.filtered
     let n := if i.qTrip ≤ q then min i.pm (m.count + 1) else 0
     let r := judgeMismatch i m
     (m.flag = false → (r.flag = true ↔ n = i.pm) ∧ r.count = n) ∧
     (m.flag = true → q ≤ 3 * i.qTrip / 4 → r.flag = false ∧ r.count = 0) ∧
     (m.flag = true → 3 * i.qTrip / 4 < q → r.flag = true ∧ r.count = n)) ∧
   (∀ q : Nat, 1 ≤ q → 3 * q / 4 < q) ∧
   ∀ (is : List MismatchInput) (m : Mismatch) (pm : Nat), m.flag = false → m.count = 0 →
     (∀ i ∈ is, i.pm = pm) → is.length < pm →
     (is.foldl (fun m i => judgeMismatch i m) m).flag = false)

/-- SAMPLE_ARRIVAL of channel 17: every evaluated arrival is followed by one mismatch evaluation, which
reads both channels as they then stand. When it sets MISMATCH in RESTART or RUN, the controller adds an
interruption list entry and goes to LOCKOUT at the lockout count and to TRIPPED below it, with the
INTERRUPTION record before the STATE record; in TRIPPED it cancels the recovery hold; in any other state
MISMATCH only joins the trip cause set. When it clears MISMATCH, the member leaves, and in TRIPPED the
recovery hold starts if the set is then empty. Whatever both flags do, the controller takes the change of
channel 17's trip flag before that of MISMATCH, after its FAULT record (R23, R28, R32, R34, R101, R102,
R104, R106, R107, R110, R162). -/
def Obligations.Channel17ArrivalsEvaluateMismatch : Prop :=
  ∀ (raw : BitVec 12) (s : State), s.resetHeld = false → s.loaded = true →
    (s.chanCfg 17).enable = true →
    let old := s.meas.chans[17]
    let new := evalSample (s.chanCfg 17) true raw.toNat old
    let fault : List Draft := if new.inFault = old.inFault then []
      else [⟨.channel, 17, if new.inFault = true then 1 else 0, 0⟩]
    let running := s.ctl.state = .restart ∨ s.ctl.state = .run
    let met : Reaction := ⟨s.ctl, s.arc.settle, fault⟩
    ∃ t, exec (.sampleArrival 17 raw) s = .next (settle t) ∧
      t.mis = evalMismatch t.mismatchInput s.mis ∧
      reacted ((met.member s (.chan 1) old.tripFlag new.tripFlag).member s .mismatch s.mis.flag t.mis.flag)
        s t ∧
      (t.ctl.state.running = false → t.ceil.eSys = 0) ∧
      (new.tripFlag = old.tripFlag → s.mis.flag = false → t.mis.flag = true →
        let forward := (s.meas.chans[16]).filtered
        let list := s.ctl.list ++ [⟨s.ms, .mismatch, forward⟩]
        let dst : CtlState := if s.param offLockoutCount ≤ list.length then .lockout else .tripped
        let causes := s.ctl.causes.put .mismatch true
        (running →
          t.ctl = { s.ctl with state := dst, inhibit := true, causes := causes, list := list } ∧
          t.ceil.eSys = 0 ∧ t.arc = { s.arc with settle := some 50 } ∧
          submitted (fault ++ [⟨.interruption, 5, signedWord forward, word list.length⟩,
            ⟨.state, s.ctl.state.code, dst.code, 7⟩]) s t) ∧
        (¬running →
          t.ctl = { s.ctl with
            causes := causes, hold := if s.ctl.state = .tripped then none else s.ctl.hold } ∧
          t.arc = s.arc ∧ submitted fault s t)) ∧
      (new.tripFlag = old.tripFlag → s.mis.flag = true → t.mis.flag = false →
        let causes := s.ctl.causes.put .mismatch false
        t.ctl = { s.ctl with
          causes := causes
          hold := if s.ctl.state = .tripped ∧ causes.isEmpty = true
            then some (s.param offSysHold * 100) else s.ctl.hold } ∧
        t.arc = s.arc ∧ submitted fault s t)

/-- The trip condition of module `n` at a sample of one of its channels: its appearance takes the module
from ON or RECOVERING to OFF and cancels the hold; its disappearance takes it from OFF to RECOVERING and
starts the hold; anything else leaves every module as it was. The counts and F_bal follow (R22, R37,
R38, R41). Each transition submits one MODULE record that names the channel, after the CHANNEL record of a
channel that entered or left FAULT (R42, R162). With the last module's leaving ON, MODULES joins the trip
cause set, which in RESTART and RUN takes the controller to TRIPPED with its STATE record and in TRIPPED
cancels the recovery hold; where MODULES does not change, the controller does not (R101, R107, R110). -/
def Obligations.ModuleTripConditions : Prop :=
  ∀ (c d : Fin 25) (n : Fin 8) (raw : BitVec 12) (s : State),
    (c.val = n.val ∧ d.val = 8 + n.val ∨ c.val = 8 + n.val ∧ d.val = n.val) →
    s.resetHeld = false → s.loaded = true → (s.chanCfg c).enable = true →
    let old := s.meas.chans[c]
    let new := evalSample (s.chanCfg c) true raw.toNat old
    let st := (s.mods.mods[n]).state
    let moved (m : Module) := recount { s.mods with mods := s.mods.mods.set n m }
    let fault : List Draft := if new.inFault = old.inFault then []
      else [⟨.channel, word c.val, if new.inFault = true then 1 else 0, 0⟩]
    let running := s.ctl.state = .restart ∨ s.ctl.state = .run
    ∃ t, exec (.sampleArrival c raw) s = .next (settle t) ∧
      let told (code : Word) : Prop :=
        let drafts := fault ++ [⟨.module, word n.val, code, word c.val⟩]
        reacted (Reaction.member s .modules s.mods.flag t.mods.flag ⟨s.ctl, s.arc.settle, drafts⟩) s t ∧
        (t.mods.flag = s.mods.flag → t.ctl = s.ctl ∧ t.arc = s.arc ∧ submitted drafts s t) ∧
        (s.mods.flag = false → t.mods.flag = true → running →
          t.ctl = { s.ctl with
            state := .tripped, inhibit := true, causes := s.ctl.causes.put .modules true } ∧
          t.ceil.eSys = 0 ∧ t.arc = { s.arc with settle := some 50 } ∧
          submitted (drafts ++ [⟨.state, s.ctl.state.code, 5, 17⟩]) s t)
      (old.tripFlag = false → new.tripFlag = true → st = .on ∨ st = .recovering →
        t.mods = moved ⟨.off, none⟩ ∧ t.ceil.mRaw[n] = 0 ∧ t.ceil.eMod[n] = 0 ∧ told 2) ∧
      (old.tripFlag = true → new.tripFlag = false → (s.meas.chans[d]).tripFlag = false → st = .off →
        t.mods = moved ⟨.recovering, some (s.param offModHold * 100)⟩ ∧ told 3) ∧
      (new.tripFlag = old.tripFlag ∨ st = .absent ∨ (new.tripFlag = true ∧ st = .off) ∨
        (new.tripFlag = false ∧ ((s.meas.chans[d]).tripFlag = true ∨ st = .on ∨ st = .recovering)) →
        t.mods = s.mods ∧ t.ctl = s.ctl ∧ t.arc = s.arc ∧ submitted fault s t)

/-- MODULE_RECOVERY_HOLD_EXPIRY: the module goes from RECOVERING to ON with its effective ceiling at 0,
one MODULE record naming no channel is submitted, the counts and F_bal follow, and MODULES, if it was
set, leaves the trip cause set (R39, R41, R42, R49, R56, R101, R110). -/
def Obligations.RecoveryHoldExpiryTurnsTheModuleOn : Prop :=
  ∀ (n : Fin 8) (s : State), s.resetHeld = false → (s.mods.mods[n]).state = .recovering →
    (s.mods.mods[n]).hold ≠ none →
    ∃ t, exec (.moduleRecoveryHoldExpiry n) s = .next (settle t) ∧
      t.mods = recount { s.mods with mods := s.mods.mods.set n ⟨.on, none⟩ } ∧
      ceilingsFollow s.ceil.eSys (s.ceil.eMod.set n 0) t ∧ marksKept s t ∧ t.ceil.eMod[n] = 0 ∧
      (s.mods.flag = false → t.ctl = s.ctl) ∧
      (s.mods.flag = true →
        let causes := s.ctl.causes.put .modules false
        t.ctl = { s.ctl with
          causes := causes
          hold := if s.ctl.state = .tripped ∧ causes.isEmpty = true
            then some (s.param offSysHold * 100) else s.ctl.hold }) ∧
      submitted [⟨.module, word n.val, 1, 0xFFFF⟩] s t ∧ imageFollows s t ∧
      changesOnly [.mods, .ceil, .image, .ctl, .pub] s t

/-! ## The drive ceiling (chapter 3) -/

/-- The counts, F_bal and MODULES of any module states: F_bal lies in 0..4096, is 4096 exactly when every
present module is ON and 0 exactly when none is, and MODULES is set exactly while none is ON (R35, R41).
What each raw ceiling is made of: C_raw is the least of the licence limit, the nine system factors, F_mis,
F_bal and whichever caps are in force (R45); M_raw[n] is the lesser of its module's two factors while the
module is ON and 0 otherwise (R49). -/
def Obligations.BalanceFactorAndRawCeilings : Prop :=
  (∀ m : Modules,
     let r := recount m
     r.mods = m.mods ∧
     r.nPresent = (m.mods.toList.countP fun x => x.state ≠ .absent) ∧
     r.nOn = (m.mods.toList.countP fun x => x.state = .on) ∧
     r.nOn ≤ r.nPresent ∧ r.nPresent ≤ 8 ∧ (r.flag = true ↔ r.nOn = 0) ∧
     (1 ≤ r.nPresent →
       r.fBal = 4096 * (r.nOn * r.nOn) / (r.nPresent * r.nPresent) ∧ r.fBal ≤ 4096 ∧
       (r.fBal = 4096 ↔ r.nOn = r.nPresent) ∧ (r.fBal = 0 ↔ r.nOn = 0))) ∧
  (∀ s : State,
     let inputs : List Nat :=
       [s.param offLicence, s.mis.factor, s.mods.fBal] ++
       (List.finRange 9).map (fun i => (s.meas.chans[16 + i.val]).factor) ++
       (if s.ceil.fallbackMark = true then [s.param offFallbackCap] else []) ++
       (if s.ceil.unprovenMark = true then [s.param offUnprovenCap] else [])
     rawSystem s ∈ inputs ∧ (∀ x ∈ inputs, rawSystem s ≤ x) ∧
     ∀ n : Fin 8,
       ((s.mods.mods[n]).state = .on → rawModule s n ≤ (s.meas.chans[n.val]).factor ∧
         rawModule s n ≤ (s.meas.chans[8 + n.val]).factor ∧
         (rawModule s n = (s.meas.chans[n.val]).factor ∨
           rawModule s n = (s.meas.chans[8 + n.val]).factor)) ∧
       ((s.mods.mods[n]).state ≠ .on → rawModule s n = 0))

/-- RAMP_EXPIRY (R53 to R56, R113): the timer reloads with the ramp interval in the shadow; E_sys in a
running state, and E_mod of each module in ON, rise by one ramp step toward their raw ceilings; in
RESTART an expiry that leaves E_sys equal to C_raw takes the controller to RUN with a STATE record. For
a rise of D ru with step S, ceil(D / S) expiries are needed, and the last lands on the raw ceiling. -/
def Obligations.RampExpiryRaisesTheCeilings : Prop :=
  (∀ s : State, s.resetHeld = false → s.ceil.ramp ≠ none →
    let step := s.param offRampStep
    let e := if s.ctl.state.running = true ∧ s.ceil.eSys < s.ceil.cRaw
      then min (s.ceil.eSys + step) s.ceil.cRaw else s.ceil.eSys
    ∃ t, exec .rampExpiry s = .next (settle t) ∧
      t.ceil.ramp = some (s.param offRampInterval) ∧ t.ceil.eSys = e ∧ t.ceil.eSys ≤ s.ceil.eSys + step ∧
      (s.ctl.state.running = false → t.ceil.eSys = s.ceil.eSys) ∧
      (∀ n : Fin 8, t.ceil.eMod[n] =
        if (s.mods.mods[n]).state = .on ∧ s.ceil.eMod[n] < s.ceil.mRaw[n]
          then min (s.ceil.eMod[n] + step) (s.ceil.mRaw[n]) else s.ceil.eMod[n]) ∧
      t.ceil.cRaw = s.ceil.cRaw ∧ t.ceil.mRaw = s.ceil.mRaw ∧
      t.ceil.fallbackMark = s.ceil.fallbackMark ∧ t.ceil.unprovenMark = s.ceil.unprovenMark ∧
      (s.ctl.state = .restart → e = s.ceil.cRaw →
        t.ctl = { s.ctl with state := .run, inhibit := false } ∧ submitted [⟨.state, 2, 3, 20⟩] s t) ∧
      (s.ctl.state ≠ .restart ∨ e ≠ s.ceil.cRaw → t.ctl = s.ctl ∧ t.pub = s.pub) ∧
      imageFollows s t ∧ changesOnly [.ceil, .image, .ctl, .pub] s t) ∧
  ∀ step raw eff : Nat, 1 ≤ step → step ≤ 4096 → eff ≤ raw → raw ≤ 4096 →
    eff + step ≤ 8192 ∧
    let n := (raw - eff + (step - 1)) / step
    (rampUp step raw)^[n] eff = raw ∧
    ∀ m, m < n → (rampUp step raw)^[m] eff = eff + m * step ∧ (rampUp step raw)^[m] eff < raw

/-! ## The drive image (chapter 4) -/

/-- The scheduling rule for one entry: a target that differs from applied is appended, or replaces the value
of the entry that waits in its place; a target equal to applied removes it; the writes of other entries
keep their order, and the write in flight plays no part; a record in CAPTURING, or none, takes no part.
The queue never comes to hold two writes for one record (R60, R64, R69). And how the drive image follows
the ceilings: the records stand, each tracking record whose governing ceiling has changed waits for its
target exactly when that differs from its applied level, and the records of unchanged ceilings wait for
what they waited for (R59, R70). -/
def Obligations.SchedulingRule : Prop :=
  (∀ (c : Ceilings) (i : Fin 9) (im : Image),
     let t := schedule c i im
     let waits := im.queue.any (fun e => e.entry == i)
     t.recs = im.recs ∧
     (∀ r, im.recs[i] = some r → r.capture = .tracking →
       let target := min r.requested (if i.val = 0 then c.eSys else c.eMod[i.val - 1]?.getD 0)
       (target ≠ r.applied → waits = false → t.queue = im.queue ++ [⟨i, target⟩]) ∧
       (target ≠ r.applied → waits = true → t.queue.map ImageWrite.entry = im.queue.map ImageWrite.entry ∧
         ∀ e ∈ t.queue, if e.entry = i then e.value = target else e ∈ im.queue) ∧
       (target = r.applied → t.queue = im.queue.filter (fun e => e.entry != i))) ∧
     ((∀ r, im.recs[i] = some r → r.capture = .capturing) → t.queue = im.queue) ∧
     t.queue.filter (fun e => e.entry != i) = im.queue.filter (fun e => e.entry != i) ∧
     ((im.queue.map ImageWrite.entry).Nodup →
       (t.queue.map ImageWrite.entry).Nodup ∧ t.queue.length ≤ 9)) ∧
  (∀ (c : Ceilings) (s : State) (i : Fin 9), (s.image.queue.map ImageWrite.entry).Nodup →
     let t := imageReact c s
     let waiting (im : Image) := im.queue.filter (fun e => e.entry == i)
     t.image.recs = s.image.recs ∧ (t.image.queue.map ImageWrite.entry).Nodup ∧
     (governing c i = governing s.ceil i → waiting t.image = waiting s.image) ∧
     (governing c i ≠ governing s.ceil i →
       (∀ r, s.image.recs[i] = some r → r.capture = .tracking →
         waiting t.image =
           if targetOf s.ceil i r = r.applied then [] else [⟨i, targetOf s.ceil i r⟩]) ∧
       ((∀ r, s.image.recs[i] = some r → r.capture = .capturing) →
         waiting t.image = waiting s.image)))

/-- CAPTURE_READ_COMPLETION, R63: requested becomes the lesser of m and 4096, applied becomes m, the record
is TRACKING, and a write of its target is queued exactly when m differs from it. A word that held more
than 4096 is captured with requested 4096, and is brought into range by the image write that follows. -/
def Obligations.CaptureSeedsTheRecord : Prop :=
  ∀ (s : State) (m : Word) (i : Fin 9) (a : Word) (k : AccessKind) (r : LevelRec),
    s.resetHeld = false → s.port.inFlight = some ⟨.capture i, a, k⟩ → s.image.recs[i] = some r →
    let r' : LevelRec :=
      { r with requested := min m.toNat 4096, applied := m.toNat, capture := .tracking }
    ∃ t, exec (.captureReadCompletion m) s = .next (settle t) ∧
      t.port = { s.port with inFlight := none } ∧ t.image.recs = s.image.recs.set i (some r') ∧
      (targetOf s.ceil i r' = m.toNat → t.image.queue = dequeue i s.image.queue) ∧
      (targetOf s.ceil i r' ≠ m.toNat →
        t.image.queue = enqueue i (targetOf s.ceil i r') s.image.queue ∧
        ⟨i, targetOf s.ceil i r'⟩ ∈ t.image.queue ∧ targetOf s.ceil i r' ≤ 4096) ∧
      (4096 < m.toNat → r'.requested = 4096 ∧ targetOf s.ceil i r' ≠ m.toNat) ∧
      changesOnly [.image, .port] s t

/-- IMAGE_WRITE_COMPLETION and HOST_LEVEL_WRITE_COMPLETION: applied becomes the written value, the write in
flight becomes none and the scheduling rule runs, so that with the target at the written value nothing
waits, and with the ceiling fallen below it a write of the target waits. A host's word is then disposed
of (R72, R75, R128). -/
def Obligations.LevelWritesComplete : Prop :=
  ∀ (s : State) (v : Word) (i : Fin 9) (a : Word) (r : LevelRec) (host : Bool),
    s.resetHeld = false → s.image.recs[i] = some r → r.capture = .tracking →
    s.port.inFlight = some ⟨if host = true then .hostLevel i else .image i, a, .write v⟩ →
    let r' : LevelRec := { r with applied := v.toNat, inFlight := .none }
    ∃ t, exec (if host = true then .hostLevelWriteCompletion else .imageWriteCompletion) s =
        .next (settle t) ∧
      t.port = { s.port with inFlight := none } ∧
      t.link = (if host = true then s.link.disposed else s.link) ∧
      t.image.recs = s.image.recs.set i (some r') ∧
      (targetOf s.ceil i r' = v.toNat →
        t.image.queue = dequeue i s.image.queue ∧ ∀ e ∈ t.image.queue, e.entry ≠ i) ∧
      (targetOf s.ceil i r' ≠ v.toNat →
        t.image.queue = enqueue i (targetOf s.ceil i r') s.image.queue ∧
        ⟨i, targetOf s.ceil i r'⟩ ∈ t.image.queue) ∧
      changesOnly [.image, .port, .link] s t

/-- HOST_LEVEL_WORD, R74: requested becomes the lesser of w and 4096; the forwarded value is the lesser of
that and the governing ceiling; nothing of the record waits in the queue any more; the write in flight
is the host's; and the outcome is TRIMMED if the forwarded value is less than w and WRITTEN if it equals
w, so that a w above 4096 is always TRIMMED. In a muted state the system level word is forwarded as 0, and
so is the level word of a module that is not ON. -/
def Obligations.HostLevelWordIsClamped : Prop :=
  ∀ (s : State) (a w : Word) (i : Fin 9) (r : LevelRec),
    s.handoffWord = some (a, w) → s.target a = .level i → s.image.recs[i] = some r →
    let f := min (min w.toNat 4096) (governing s.ceil i)
    ∃ t, exec .hostLevelWord s = .next t ∧
      t.image.recs = s.image.recs.set i
        (some { r with requested := min w.toNat 4096, inFlight := .host f }) ∧
      t.image.queue = dequeue i s.image.queue ∧ (∀ e ∈ t.image.queue, e.entry ≠ i) ∧
      t.port = { s.port with inFlight := some ⟨.hostLevel i, a, .write (word f)⟩ } ∧
      t.link = { s.link with
        outcomes := s.link.outcomes ++ [if f < w.toNat then .trimmed else .written]
        index := s.link.index + 1 } ∧
      (f < w.toNat ∨ f = w.toNat) ∧ (4096 < w.toNat → f < w.toNat) ∧ (word f).toNat = f ∧
      (i.val = 0 → s.ctl.state.running = false → rfSafe s → f = 0) ∧
      (∀ n : Fin 8, i.val = n.val + 1 → (s.mods.mods[n]).state ≠ .on → ceilingsRight s → f = 0) ∧
      changesOnly [.image, .port, .link] s t

/-- What a level enable mask is validated to, the mask `old` being in force: no bit above the nine; a kept
bit stays; a bit to be set is taken, entries in ascending order, unless its address lies in the control
table or is that of an entry kept or already taken by this write; a write of the mask in force is taken
as it is. LEVEL_ENABLE_MASK_WRITE: the validated mask is stored and forwarded and a sweep starts; the
entries it disables lose their records, those it enables get a new one in CAPTURING with a capture read
issued, in ascending order, and every other record stands (R65, R66, R67, R149). -/
def Obligations.LevelEnableMaskWrites : Prop :=
  (∀ (s : State) (old w : Word),
     let v := validLevelMask s old w
     v &&& 0x01FF = v ∧
     (∀ i : Fin 9,
       (bit w i.val = false → bit v i.val = false) ∧
       (bit w i.val = true → bit old i.val = true → bit v i.val = true) ∧
       (bit w i.val = true → bit old i.val = false →
         (bit v i.val = true ↔
           s.inTable (s.levelAddr i) = false ∧
           ∀ j : Fin 9, bit old j.val = true ∧ bit w j.val = true ∨ j < i ∧ bit v j.val = true →
             s.levelAddr j ≠ s.levelAddr i))) ∧
     (old &&& 0x01FF = old → validLevelMask s old old = old)) ∧
  (∀ (s : State) (a w : Word), s.handoffWord = some (a, w) → s.target a = .levelMask →
     let old := s.word offLevelMask
     let v := validLevelMask s old w
     let enabled (i : Fin 9) : Bool := bit v i.val && !bit old i.val
     ∃ t, exec .levelEnableMaskWrite s = .next t ∧
       wordStored offLevelMask v s t ∧ sweepStarted s t ∧
       (∀ i : Fin 9, t.image.recs[i] =
         if enabled i = true then some ⟨s.levelAddr i, 0, 0, .capturing, .none⟩
         else if bit old i.val = true ∧ bit v i.val = false then none else s.image.recs[i]) ∧
       t.image.queue = [] ∧
       t.port = ⟨some ⟨.hostWrite, a, .write v⟩,
         ((List.finRange 9).filter enabled).map fun i => .capture i (s.levelAddr i)⟩ ∧
       t.link = { s.link with
         outcomes := s.link.outcomes ++ [if v = w then .written else .trimmed]
         index := s.link.index + 1 } ∧
       changesOnly [.shadow, .checker, .image, .port, .link] s t)

/-! ## Arc sources and proof tests (chapter 5) -/

/-- PENDING_CHANGE and SURGE_COMPARATOR_CHANGE (R81, R82): the pin takes its level, and an enabled source's
debouncer compares it with the accepted level: a difference begins a pending change of the debounce then
in force, a return cancels it, and neither is a transition; with a debounce of 0 µs the change is a
transition at once. A disabled source only sees the pin move; that a part held in reset does too is the
model's choice (log entry 5), and so is that a surge reading above the full scale of 4096 ru reads 4096
(log entry 6). -/
def Obligations.LineChangesBeginAndCancel : Prop :=
  ∀ (c : Instr) (i : Fin 5) (s u : State),
    ((∃ high, c = .pendingChange i high ∧ i.val < 4 ∧
        u = { s with arc := { s.arc with lines := s.arc.lines.setIfInBounds i.val high } } ∧
        u.inputLevel i = high) ∨
      (∃ r, c = .surgeComparatorChange r ∧ i = 4 ∧
        u = { s with arc := { s.arc with surgeInput := min 4096 r } })) →
    let x := s.arc.sources[i]
    let level := u.inputLevel i
    let d := srcDebounce (s.sourceWord i)
    let changed (p : Option Pending) : State :=
      { u with arc := { u.arc with sources := u.arc.sources.set i { x with change := p } } }
    (s.resetHeld = true → exec c s = .next u) ∧
    (s.resetHeld = false →
      (x.state = .disabled → exec c s = .next (settle u)) ∧
      (x.state ≠ .disabled → level = x.accepted → exec c s = .next (settle (changed none))) ∧
      (x.state ≠ .disabled → level ≠ x.accepted → x.change ≠ none → exec c s = .next (settle u)) ∧
      (x.state ≠ .disabled → level ≠ x.accepted → x.change = none → d ≠ 0 →
        exec c s = .next (settle (changed (some ⟨level, d⟩)))) ∧
      (x.state ≠ .disabled → level ≠ x.accepted → x.change = none → d = 0 →
        exec c s = exec (.debouncedTransition i) (changed (some ⟨level, 0⟩))))

/-- DEBOUNCED_TRANSITION that is an arc edge with RF on, case 3 of R86: the controller asserts INHIBIT, adds
an interruption list entry with the source's origin and channel 16's filtered value, and goes to LOCKOUT
if the list has come to the lockout count and to BLANK, with the blank timer, if not; E_sys falls to 0,
the mute settle timer starts, and an INTERRUPTION record stands before the STATE record. The source
state stands (R87, R88, R99, R102, R104, R105, R108, R109). -/
def Obligations.ArcEdgeInterruptsRF : Prop :=
  ∀ (i : Fin 5) (p : Pending) (s : State), s.resetHeld = false →
    (s.arc.sources[i]).state ≠ .disabled → (s.arc.sources[i]).change = some p →
    (if i.val = 4 then p.level = true else
      match srcPolarity (s.sourceWord i) with
      | .rising => p.level = true
      | .falling => p.level = false
      | .both => True) →
    s.arc.proof ≠ some ⟨i, .waiting⟩ → s.arc.proof ≠ some ⟨i, .passed⟩ →
    s.ctl.state = .run ∨ s.ctl.state = .restart →
    let now : Source := ⟨(s.arc.sources[i]).state, p.level, none⟩
    let origin : Origin := if h : i.val < 4 then .arc ⟨i.val, h⟩ else .surge
    let forward := (s.meas.chans[16]).filtered
    let list := s.ctl.list ++ [⟨s.ms, origin, forward⟩]
    let locks := s.param offLockoutCount ≤ list.length
    let dst : CtlState := if locks then .lockout else .blank
    ∃ t, exec (.debouncedTransition i) s = .next (settle t) ∧
      t.ctl = { s.ctl with
        state := dst, inhibit := true, list := list
        blank := if locks then s.ctl.blank else some (s.param offBlankTime) } ∧
      t.ceil = { s.ceil with eSys := 0 } ∧ imageFollows s t ∧
      t.arc = { s.arc with
        sources := s.arc.sources.set i now
        settle := some 50 } ∧
      submitted [⟨.interruption, word i.val, signedWord forward, word list.length⟩,
        ⟨.state, s.ctl.state.code, dst.code, word (2 + i.val)⟩] s t ∧
      changesOnly [.ctl, .ceil, .image, .arc, .pub] s t

/-- DEBOUNCED_TRANSITION that is no arc edge, or an edge that cases 2, 4 and 5 of R86 ignore, or case 6 finds
already SUSPECT: the accepted level becomes the new level, the pending change is none, and nothing else
happens (R81, R82, R86, R89). An edge in phase WAITING of its own source's proof is the PASS: the
stimulus is released, the source becomes PASSED, the proof goes to phase PASSED and its timer runs on,
and a PROOF record is submitted (R93). An edge in STANDBY, TRIPPED or LOCKOUT with the mute settle timer
idle makes its source SUSPECT, with a SUSPECT record (R86, R89). The unproven mark and the ceilings
follow the new source state (R47, R91). -/
def Obligations.ArcEdgesWithRFOff : Prop :=
  (∀ (i : Fin 5) (p : Pending) (s : State), s.resetHeld = false →
     (s.arc.sources[i]).state ≠ .disabled → (s.arc.sources[i]).change = some p →
     let edge : Prop := if i.val = 4 then p.level = true else
       match srcPolarity (s.sourceWord i) with
       | .rising => p.level = true
       | .falling => p.level = false
       | .both => True
     let now : Source := ⟨(s.arc.sources[i]).state, p.level, none⟩
     let muted := s.ctl.state = .standby ∨ s.ctl.state = .tripped ∨ s.ctl.state = .lockout
     (¬edge ∨ s.arc.proof = some ⟨i, .passed⟩ ∨
       (s.arc.proof ≠ some ⟨i, .waiting⟩ ∧
         (s.ctl.state = .blank ∨ (muted ∧ s.arc.settle ≠ none) ∨
           (muted ∧ (s.arc.sources[i]).state = .suspect)))) →
     exec (.debouncedTransition i) s = .next (settle
       { s with arc := { s.arc with sources := s.arc.sources.set i now } })) ∧
  (∀ (i : Fin 5) (p : Pending) (s : State), s.resetHeld = false →
     (s.arc.sources[i]).state ≠ .disabled → (s.arc.sources[i]).change = some p →
     (if i.val = 4 then p.level = true else
       match srcPolarity (s.sourceWord i) with
       | .rising => p.level = true
       | .falling => p.level = false
       | .both => True) →
     let becomes (st : SourceState) : Vector Source 5 :=
       s.arc.sources.set i { state := st, accepted := p.level, change := none }
     (s.arc.proof = some ⟨i, .waiting⟩ ∨
       (s.arc.proof ≠ some ⟨i, .passed⟩ ∧ s.arc.settle = none ∧ (s.arc.sources[i]).state ≠ .suspect ∧
         (s.ctl.state = .standby ∨ s.ctl.state = .tripped ∨ s.ctl.state = .lockout))) →
     ∃ t, exec (.debouncedTransition i) s = .next (settle t) ∧
       (s.arc.proof = some ⟨i, .waiting⟩ →
         t.arc = { s.arc with
           sources := becomes .passed, proof := some ⟨i, .passed⟩
           stimulus := s.arc.stimulus.set i false } ∧
         submitted [⟨.proof, word i.val, 1, 0⟩] s t) ∧
       (s.arc.proof ≠ some ⟨i, .waiting⟩ →
         t.arc = { s.arc with sources := becomes .suspect } ∧ t.ceil.unprovenMark = true ∧
         submitted [⟨.suspect, word i.val, 0, 0⟩] s t) ∧
       t.ceil.unprovenMark = anyUnproven t.arc ∧ t.ceil.fallbackMark = s.ceil.fallbackMark ∧
       ceilingsFollow s.ceil.eSys s.ceil.eMod t ∧ imageFollows s t ∧
       changesOnly [.arc, .ceil, .image, .pub] s t)

/-- PROOF_TIMER_EXPIRY: in phase WAITING the proof fails: the stimulus is released, the source becomes
FAILED and a PROOF record says so; in phase PASSED the proof just ends. Either way no proof is left and
the timer is idle (R94). -/
def Obligations.ProofTimerEndsTheProof : Prop :=
  ∀ (s : State) (p : ProofTest), s.resetHeld = false → s.arc.proof = some p →
    s.arc.proofTimer ≠ none →
    let x := s.arc.sources[p.source]
    let now : Source := ⟨.failed, x.accepted, x.change⟩
    (p.phase = .passed →
      exec .proofTimerExpiry s = .next (settle
        { s with arc := { s.arc with proof := none, proofTimer := none } })) ∧
    (p.phase = .waiting →
      ∃ t, exec .proofTimerExpiry s = .next (settle t) ∧
        t.arc = { s.arc with
          sources := s.arc.sources.set p.source now
          proof := none, proofTimer := none, stimulus := s.arc.stimulus.set p.source false } ∧
        t.ceil.unprovenMark = true ∧ t.ceil.fallbackMark = s.ceil.fallbackMark ∧
        ceilingsFollow s.ceil.eSys s.ceil.eMod t ∧ imageFollows s t ∧
        submitted [⟨.proof, word p.source.val, 0, 0⟩] s t ∧
        changesOnly [.arc, .ceil, .image, .pub] s t)

/-- SOURCE_ENABLE, SOURCE_DISABLE and SOURCE_SETTING_CHANGE: the validated word is stored and forwarded and
a sweep starts. An enabled source becomes UNTESTED with its debouncer started from the input as it
stands; a disabled one becomes DISABLED, its pending change is discarded and a proof on it abandoned
without a record; a change of settings leaves the source as it was, pending change and all (R83, R84,
R85, R95, R151). -/
def Obligations.SourceWordWrites : Prop :=
  ∀ (c : Instr) (s : State) (a w : Word) (i : Fin 5),
    s.handoffWord = some (a, w) → s.target a = .source i →
    let old := s.sourceWord i
    let v := if field w 1 2 = 0 then (w &&& 0x001F) ||| 0x0006 else w &&& 0x001F
    (c = .sourceEnable ∧ bit old 0 = false ∧ bit w 0 = true ∨
      c = .sourceDisable ∧ bit old 0 = true ∧ bit w 0 = false ∨
      c = .sourceSettingChange ∧ bit old 0 = true ∧ bit w 0 = true ∧
        (srcPolarity old ≠ srcPolarity v ∨ srcDebounce old ≠ srcDebounce v)) →
    ∃ t, exec c s = .next t ∧
      wordStored (0x055 + i.val) v s t ∧ sweepStarted s t ∧ forwarded s t a w v .hostWrite ∧
      (c = .sourceEnable →
        t.arc = { s.arc with sources := s.arc.sources.set i ⟨.untested, s.inputLevel i, none⟩ } ∧
        t.ceil.unprovenMark = anyUnproven t.arc ∧ ceilingsFollow s.ceil.eSys s.ceil.eMod t) ∧
      (c = .sourceDisable →
        t.arc.sources = s.arc.sources.set i ⟨.disabled, (s.arc.sources[i]).accepted, none⟩ ∧
        (∀ p, s.arc.proof = some p → p.source = i → t.arc.proof = none ∧ t.arc.proofTimer = none ∧
          t.arc.stimulus = s.arc.stimulus.set i false) ∧
        ((∀ p, s.arc.proof = some p → p.source ≠ i) →
          t.arc = { s.arc with sources := t.arc.sources }) ∧
        t.ceil.unprovenMark = anyUnproven t.arc ∧ ceilingsFollow s.ceil.eSys s.ceil.eMod t) ∧
      (c = .sourceSettingChange → t.arc = s.arc ∧ t.ceil = s.ceil) ∧
      t.ceil.fallbackMark = s.ceil.fallbackMark ∧ imageFollows s t ∧
      changesOnly [.shadow, .checker, .arc, .ceil, .image, .port, .link] s t

/-! ## The transmit state controller (chapter 6) -/

/-- The expiries of timers with one effect: MUTE_SETTLE_EXPIRY (R88), INTERRUPTION_ENTRY_REMOVAL of an entry
whose age has reached the window (R103), SWEEP_TIMER_EXPIRY, which starts a sweep or starts it again
(R156), SNAPSHOT_TIMER_EXPIRY, which begins a snapshot unless one is in progress (R160); and the
controller's: BLANK_EXPIRY, which takes it to RESTART if the trip cause set is empty and to TRIPPED if
not, and SYSTEM_RECOVERY_HOLD_EXPIRY, which takes it to RESTART, each entry into RESTART setting E_sys to
the lesser of the restart level and C_raw (R51, R99, R109, R111, R112, R120). -/
def Obligations.TimerExpiries : Prop :=
  ∀ s : State, s.resetHeld = false →
    let begun : Ceilings := { s.ceil with eSys := min (s.param offRestart) s.ceil.cRaw }
    (s.arc.settle ≠ none →
      exec .muteSettleExpiry s = .next { s with arc := { s.arc with settle := none } }) ∧
    (∀ e rest, s.ctl.list = e :: rest → s.param offWindow * 1000 ≤ (s.ms - e.time).toNat →
      exec .interruptionEntryRemoval s = .next { s with ctl := { s.ctl with list := rest } }) ∧
    (s.checker.timer ≠ none →
      exec .sweepTimerExpiry s = .next
        { s with checker :=
          { s.checker with sweep := .running 0x003 0xFFFF, timer := some 1000 } }) ∧
    (s.pub.timer ≠ none →
      exec .snapshotTimerExpiry s = .next (settle
        { s with pub := { s.pub with
          timer := some 100
          snapshot := if s.pub.snapshot = none then some ⟨0, 0⟩ else s.pub.snapshot } })) ∧
    (s.ctl.state = .blank → s.ctl.blank ≠ none →
      ∃ t, exec .blankExpiry s = .next (settle t) ∧
        (s.ctl.causes.isEmpty = true →
          t.ctl = { s.ctl with state := .restart, inhibit := false, blank := none } ∧
          t.ceil = begun ∧ submitted [⟨.state, 4, 2, 18⟩] s t) ∧
        (s.ctl.causes.isEmpty = false →
          t.ctl = { s.ctl with state := .tripped, inhibit := true, blank := none } ∧
          t.ceil = s.ceil ∧ submitted [⟨.state, 4, 5, 18⟩] s t) ∧
        imageFollows s t ∧ changesOnly [.ctl, .ceil, .image, .pub] s t) ∧
    (s.ctl.state = .tripped → s.ctl.hold ≠ none →
      ∃ t, exec .systemRecoveryHoldExpiry s = .next (settle t) ∧
        t.ctl = { s.ctl with state := .restart, inhibit := false, hold := none } ∧
        t.ceil = begun ∧ submitted [⟨.state, 5, 2, 19⟩] s t ∧
        imageFollows s t ∧ changesOnly [.ctl, .ceil, .image, .pub] s t)

/-- RESUME, STANDBY and RELEASE: each is forwarded as written and kept as the last command with its result,
and a command that is taken may change the controller's state, by the tables of R116, R117 and R118. A
change asserts or releases INHIBIT by the new state, sets E_sys at an entry into RESTART, zeroes it and
starts the mute settle timer where a running state is left, and submits a STATE record (R50, R51, R88,
R99, R108, R112, R115, R120). -/
def Obligations.ResumeStandbyAndRelease : Prop :=
  ∀ (c : Instr) (s : State) (a w : Word) (code : Nat), s.handoffWord = some (a, w) →
    s.target a = .command → field w 0 8 = code →
    (c = .resume ∧ code = 1 ∨ c = .standby ∧ code = 2 ∨ c = .release ∧ code = 3) →
    let fate : CmdResult × Option CtlState :=
      match code, s.ctl.state with
      | 1, .standby =>
        if s.arc.proof ≠ none then (.refusedBusy, none)
        else (.taken, some (if s.ctl.causes.isEmpty = true then .restart else .tripped))
      | 1, .restart => (.taken, none)
      | 1, .run => (.taken, none)
      | 2, .standby => (.taken, none)
      | 2, .restart => (.taken, some .standby)
      | 2, .run => (.taken, some .standby)
      | 2, .blank => (.taken, some .standby)
      | 2, .tripped => (.taken, some .standby)
      | 3, .lockout => (.taken, some .standby)
      | _, _ => (.refusedState, none)
    let noted : Controller := { s.ctl with lastCode := some code, lastResult := fate.1 }
    let leaves := s.ctl.state = .restart ∨ s.ctl.state = .run
    ∃ t, exec c s = .next t ∧ forwarded s t a w w .hostWrite ∧
      (fate.2 = none → t.ctl = noted ∧ t.ceil = s.ceil ∧ t.arc = s.arc ∧ t.pub = s.pub) ∧
      (∀ dst, fate.2 = some dst →
        t.ctl = { noted with
          state := dst
          inhibit := decide (dst ≠ .restart)
          list := if code = 3 then [] else s.ctl.list
          blank := if code = 2 ∧ s.ctl.state = .blank then none else s.ctl.blank
          hold := if code = 2 ∧ s.ctl.state = .tripped then none else s.ctl.hold } ∧
        t.ceil = { s.ceil with
          eSys := if dst = .restart then min (s.param offRestart) s.ceil.cRaw
            else if leaves then 0 else s.ceil.eSys } ∧
        t.arc = { s.arc with settle := if leaves then some 50 else s.arc.settle } ∧
        submitted [⟨.state, s.ctl.state.code, dst.code, word (20 + code)⟩] s t) ∧
      imageFollows s t ∧ changesOnly [.ctl, .ceil, .image, .arc, .port, .link, .pub] s t

/-- The other command words, each forwarded as written. COMMAND_NONE changes nothing of the controller.
UNKNOWN_COMMAND is kept with the result UNKNOWN. PROOF is kept with its result: refused outside STANDBY,
refused while a proof is in progress, refused for a source that is disabled or not there, and otherwise
taken: the proof begins in phase WAITING, its timer starts with the proof window and the source's
stimulus is asserted (R92, R115, R119). -/
def Obligations.ProofAndTheOtherCommands : Prop :=
  ∀ (s : State) (a w : Word), s.handoffWord = some (a, w) → s.target a = .command →
    (field w 0 8 = 0 →
      ∃ t, exec .commandNone s = .next t ∧ forwarded s t a w w .hostWrite ∧
        changesOnly [.port, .link] s t) ∧
    (5 ≤ field w 0 8 →
      ∃ t, exec .unknownCommand s = .next t ∧ forwarded s t a w w .hostWrite ∧
        t.ctl = { s.ctl with lastCode := some (field w 0 8), lastResult := .unknown } ∧
        changesOnly [.ctl, .port, .link] s t) ∧
    (field w 0 8 = 4 →
      let n := field w 8 3
      let result : CmdResult :=
        if s.ctl.state ≠ .standby then .refusedState
        else if s.arc.proof ≠ none then .refusedBusy
        else if ∃ i : Fin 5, i.val = n ∧ (s.arc.sources[i]).state ≠ .disabled then .taken
        else .refusedSource
      ∃ t, exec .proof s = .next t ∧ forwarded s t a w w .hostWrite ∧
        t.ctl = { s.ctl with lastCode := some 4, lastResult := result } ∧
        (result ≠ .taken → t.arc = s.arc) ∧
        (∀ i : Fin 5, i.val = n → result = .taken →
          t.arc = { s.arc with
            proof := some ⟨i, .waiting⟩
            proofTimer := some (s.param offProofWindow)
            stimulus := s.arc.stimulus.set i true }) ∧
        changesOnly [.ctl, .arc, .port, .link] s t)

/-! ## The passing path and the guard map (chapters 7 and 8) -/

/-- The words of the link. LINK_HEADER in IDLE begins a request and starts the stall timer; FRAME_WORD in
RECEIVING before the check position is appended, marked or not, and the stall timer is not started again;
DISCARDED_WORD changes nothing; RESPONSE_SENT returns the link to IDLE; STALL_TIMER_EXPIRY in RECEIVING
abandons the request with a LINK record, which START does not submit (R123, R124, R125, R131, R135). -/
def Obligations.LinkWordsBuildARequest : Prop :=
  ∀ (s : State) (w : Word) (mark : Bool),
    exec (.discardedWord w mark) s = .next s ∧
    (s.resetHeld = false →
      (s.link.state = .idle →
        exec (.linkHeader w) s = .next
          { s with link := ⟨.receiving, [w], [], some 1, 1, [], []⟩ }) ∧
      (s.link.state = .receiving → s.link.buf.length + 1 < s.link.checkPosition →
        exec (.frameWord w mark) s = .next
          { s with link := { s.link with buf := s.link.buf ++ [w] } }) ∧
      (s.link.state = .answering →
        exec .responseSent s = .next { s with link := ⟨.idle, [], [], none, 1, [], []⟩ }) ∧
      (s.link.state = .receiving → s.link.stall ≠ none →
        ∃ t, exec .stallTimerExpiry s = .next (settle t) ∧
          t.link = ⟨.idle, [], [], none, 1, [], []⟩ ∧
          submitted (if s.ctl.state = .start then []
            else [⟨.link, 1, s.link.addr, word s.link.count⟩]) s t ∧
          changesOnly [.link, .pub] s t))

/-- REQUEST_FRAME: the frame is tested for its check word, its range and START, in that order, and the first
that fails refuses it with a short response and, but for START's, a LINK record that START does not
submit; a frame that passes is served from its first word (R126, R131, R135). The check of a run of
words, here and in the responses and the sweep: a register set to 0xFFFF takes every word's bits from bit
15 down; at each the register's bit 15 is combined with the bit, the register shifted left by one, and
0x1021 combined with it if that was 1; so a run with its own check behind it checks to 0 (section
11.6). -/
def Obligations.FramesAreTestedInOrder : Prop :=
  (let take (r : Word) (b : Bool) : Word :=
     if (r.getLsbD 15 != b) = true then (r <<< 1) ^^^ 0x1021 else r <<< 1
   let bits (w : Word) : List Bool := (List.range 16).map fun i => w.getLsbD (15 - i)
   ∀ ws : List Word, crc ws = (ws.flatMap bits).foldl take 0xFFFF ∧ crc (ws ++ [crc ws]) = 0) ∧
  ∀ (s : State) (w : Word) (mark : Bool), s.resetHeld = false → s.link.state = .receiving →
    s.link.buf.length + 1 = s.link.checkPosition →
    let l := s.link
    let good := crc l.buf = w
    let fits := l.addr.toNat + l.count ≤ 0x10000
    let answers (code : Word) : Link :=
      { l with stall := none, state := .answering, response := [code, crc [code]] }
    let record (subject : Word) : List Draft :=
      if s.ctl.state = .start then [] else [⟨.link, subject, l.addr, word l.count⟩]
    ∃ t, exec (.requestFrame w mark) s = .next (settle t) ∧
      (¬good → t.link = answers 3 ∧ submitted (record 2) s t) ∧
      (good → ¬fits → t.link = answers 4 ∧ submitted (record 3) s t) ∧
      (good → fits → s.ctl.state = .start → t.link = answers 5 ∧ t.pub = s.pub) ∧
      (good → fits → s.ctl.state ≠ .start →
        t.link = { l with stall := none, state := .serving, index := 1 } ∧ t.pub = s.pub) ∧
      changesOnly [.link, .pub] s t

/-- HOST_READ_COMPLETION keeps the value unaltered, and after the last read the link answers with the data.
HOST_WRITE_COMPLETION frees the port and disposes of the word, a stepped word's write ending its record
(R127, R128, R131, R141). The response of a served WRITE: once its last word is disposed of and not
before, the link answers with the most severe outcome, two words that hold the sixteen outcomes two bits
each, and the check (R128, R131, section 11.5). STEP_PRE_READ_COMPLETION: the stepped word's forwarded
value is w held within one step of the value read and within 0 to 65535, its outcome is noted, and its
write is then offered; the step is the entry's as the shadow holds it then (R141). -/
def Obligations.HostAccessesComplete : Prop :=
  (∀ (s : State) (a : Word) (k : AccessKind), s.resetHeld = false →
     (∀ v : Word, s.port.inFlight = some ⟨.hostRead, a, k⟩ →
       let data := s.link.readData ++ [v]
       exec (.hostReadCompletion v) s = .next (settle
         { s with
           port := { s.port with inFlight := none }
           link := if data.length = s.link.count
             then { s.link with
               readData := data, state := .answering, response := (0 :: data) ++ [crc (0 :: data)] }
             else { s.link with readData := data } })) ∧
     (s.port.inFlight = some ⟨.hostWrite, a, k⟩ →
       exec .hostWriteCompletion s = .next (settle
         { s with port := { s.port with inFlight := none }, link := s.link.disposed })) ∧
     (s.port.inFlight = some ⟨.stepWrite, a, k⟩ →
       exec .hostWriteCompletion s = .next (settle
         { s with
           port := { s.port with inFlight := none }, link := s.link.disposed, stepped := none }))) ∧
  (∀ l : Link, l.state = .serving → l.isWrite = true → l.outcomes.length ≤ 16 →
    (l.index ≤ l.count → l.disposed = l) ∧
    (l.count < l.index → ∃ status first second : Word,
      l.disposed = { l with
        state := .answering
        response := [status, first, second, crc [status, first, second]] } ∧
      (∀ o ∈ l.outcomes, o.code ≤ status.toNat) ∧
      (status.toNat = 0 ∨ ∃ o ∈ l.outcomes, o.code = status.toNat) ∧
      ∀ i : Fin 8,
        field first (2 * i.val) 2 = ((l.outcomes[i.val]?).map WordOutcome.code).getD 0 ∧
        field second (2 * i.val) 2 = ((l.outcomes[8 + i.val]?).map WordOutcome.code).getD 0)) ∧
  ∀ (s : State) (c : Word) (x : Stepped) (a : Word) (k : AccessKind), s.resetHeld = false →
    s.stepped = some x → s.port.inFlight = some ⟨.stepRead, a, k⟩ →
    let step := s.param (offGuardC x.entry.val)
    ∃ f : Nat, f ≤ 65535 ∧ c.toNat - step ≤ f ∧ f ≤ c.toNat + step ∧
      (c.toNat - step ≤ x.value.toNat → x.value.toNat ≤ c.toNat + step → f = x.value.toNat) ∧
      (x.value.toNat < c.toNat - step → f = c.toNat - step) ∧
      (c.toNat + step < x.value.toNat → f = c.toNat + step) ∧
      exec (.stepPreReadCompletion c) s = .next (settle
        { s with
          port := { s.port with inFlight := none }
          stepped := some { x with preRead := some c, forward := word f }
          link := { s.link with outcomes := s.link.outcomes ++
            [if f = x.value.toNat then .written else .trimmed] } })

/-- What the port grants, class by class. A busy port and one held in reset grant nothing. Class 1 goes first:
a table-load access or a write-back of its own accord, a capture read by CAPTURE_READ_GRANT. With none,
IMAGE_WRITE_GRANT takes the head of the image write queue, which becomes its record's write in flight.
With neither, the host's class: a stepped word's write, or a READ's next word. A publication write is
granted only when no other class has work (R62, R66, R71, R127, R132, R133, R134, R141). That the last
of these and the grants by rows are commands is the model's choice (log entry 3). -/
def Obligations.GrantsFollowTheClasses : Prop :=
  ∀ s : State,
    let granted (x : State) (a : Access) (rest : List Class1) : State :=
      { x with port := ⟨some a, rest⟩ }
    (s.resetHeld = true ∨ s.port.inFlight ≠ none → settle s = s ∧ exec .captureReadGrant s = .next s ∧
      exec .imageWriteGrant s = .next s ∧ exec .publicationWriteGrant s = .next s) ∧
    (s.resetHeld = false → s.port.inFlight = none →
      (∀ off rest, s.port.class1 = .tableRead off :: rest →
        settle s = granted s ⟨.tableRead off, s.tableAddr off, .read⟩ rest) ∧
      (∀ off v rest, s.port.class1 = .writeBack off v :: rest →
        settle s = granted s ⟨.writeBack off, s.tableAddr off, .write v⟩ rest) ∧
      (∀ i a rest, s.port.class1 = .capture i a :: rest → settle s = s ∧
        exec .captureReadGrant s = .next (granted s ⟨.capture i, a, .read⟩ rest)) ∧
      (s.port.class1 ≠ [] → exec .imageWriteGrant s = .next s) ∧
      (∀ w rest r, s.port.class1 = [] → s.image.queue = w :: rest →
        s.image.recs[w.entry] = some r → settle s = s ∧
        exec .imageWriteGrant s = .next
          { granted s ⟨.image w.entry, r.addr, .write (word w.value)⟩ [] with
            image := { recs := s.image.recs.set w.entry (some { r with inFlight := .image w.value })
                       queue := rest } }) ∧
      (s.port.class1 ≠ [] ∨ s.image.queue ≠ [] → s.handoffWord = none) ∧
      (∀ x, s.port.class1 = [] → s.image.queue = [] → s.stepped = some x → s.handoffWord = none ∧
        settle s = if x.preRead = none then s
          else granted s ⟨.stepWrite, x.addr, .write x.forward⟩ []) ∧
      (s.port.class1 = [] → s.image.queue = [] → s.stepped = none → s.link.state = .serving →
        s.link.isWrite = false → s.link.index ≤ s.link.count →
        settle s = granted { s with link := { s.link with index := s.link.index + 1 } }
          ⟨.hostRead, s.link.addr + word (s.link.index - 1), .read⟩ []) ∧
      (s.port.class1 ≠ [] ∨ s.image.queue ≠ [] ∨ s.handoffWord ≠ none ∨ s.readOffered = true →
        exec .publicationWriteGrant s = .next s))

/-- The classification of a host word's address: the control table from offset 0x200 on is the part's, the
table's words below are configuration words, then the addresses of level records, then the guard
entries, of which the lowest-numbered enabled one whose base agrees with the address under its mask
decides, and any other address is passed (R73, R129, R137, R147). -/
def Obligations.AddressesAreClassifiedInOrder : Prop :=
  ∀ (s : State) (a : Word),
    let off := a.toNat - s.straps.toNat * 0x1000
    let inTable := s.straps.toNat * 0x1000 ≤ a.toNat ∧ off < 0x400
    let has (i : Fin 9) := ∃ r, s.image.recs[i] = some r ∧ r.addr = a
    let guards (g : Fin 16) :=
      let e := s.word (0x025 + 3 * g.val)
      let m := s.word (0x021 + field e 3 2)
      bit e 0 = true ∧ a &&& m = s.word (0x026 + 3 * g.val) &&& m
    (inTable → 0x200 ≤ off → s.target a = .partOwned) ∧
    (inTable → off < 0x200 → s.target a = configTarget off) ∧
    (¬inTable →
      (∀ i, has i → (∀ j, j < i → ¬has j) → s.target a = .level i) ∧
      ((∀ i, ¬has i) →
        (∀ g, guards g → (∀ h, h < g → ¬guards h) → s.target a = .guard g) ∧
        ((∀ g, ¬guards g) → s.target a = .pass)))

/-- WRITE_WORD: the words without a row of their own. One in the part's own half of the table is HELD, and no
sweep starts; a free or passed word is forwarded as written; a guarded word is HELD by BLOCK, by
HOLD_MUTED while INHIBIT is asserted and by HOLD_MODULE_OFF while its zone's module is OFF or RECOVERING,
is pre-read by STEP, and is forwarded as written otherwise; the checksum reference, a guard mask, a
saturated parameter read where it acts, and a source word that changes no setting are stored and
forwarded (R129, R130, R138, R139, R140, R141, R145, R149, R150, R151). -/
def Obligations.WordsWithoutARowOfTheirOwn : Prop :=
  ∀ (s : State) (a w : Word), s.handoffWord = some (a, w) →
    ∃ t, exec .writeWord s = .next t ∧
      (s.target a = .partOwned → heldBack s t ∧ changesOnly [.link] s t) ∧
      (s.target a = .free ∨ s.target a = .pass →
        forwarded s t a w w .hostWrite ∧ changesOnly [.port, .link] s t) ∧
      (∀ g : Fin 16, s.target a = .guard g →
        let e := s.word (0x025 + 3 * g.val)
        let zone := (s.mods.mods[guardZone e]).state
        let held := field e 1 2 = 0 ∨ (field e 1 2 = 1 ∧ s.ctl.inhibit = true) ∨
          (field e 1 2 = 2 ∧ (zone = .off ∨ zone = .recovering))
        (held → heldBack s t ∧ changesOnly [.link] s t) ∧
        (¬held → field e 1 2 ≠ 3 →
          forwarded s t a w w .hostWrite ∧ changesOnly [.port, .link] s t) ∧
        (field e 1 2 = 3 →
          t.stepped = some ⟨a, w, g, none, w⟩ ∧
          t.port = { s.port with inFlight := some ⟨.stepRead, a, .read⟩ } ∧
          t.link = { s.link with index := s.link.index + 1 } ∧
          changesOnly [.stepped, .port, .link] s t)) ∧
      (s.target a = .reference → justStored 0x002 a w w s t) ∧
      (∀ m : Fin 4, s.target a = .guardMask m → justStored (0x021 + m.val) a w w s t) ∧
      (∀ p ∈ [(0x005, 0, 4096), (0x006, 1, 4096), (0x007, 1, 255), (0x008, 5, 500), (0x00A, 2, 8),
          (0x00B, 1, 600), (0x00C, 1, 600), (0x015, 1, 50), (0x016, 1, 100)],
        s.target a = .param p.1 →
          justStored p.1 a w (word (max p.2.1 (min p.2.2 w.toNat))) s t) ∧
      (s.target a = .param 0x013 → justStored 0x013 a w (w &&& 0x01FF) s t) ∧
      (∀ i : Fin 5, s.target a = .source i →
        let old := s.sourceWord i
        let v := if field w 1 2 = 0 then (w &&& 0x001F) ||| 0x0006 else w &&& 0x001F
        bit old 0 = bit w 0 →
        (bit w 0 = true → srcPolarity old = srcPolarity v ∧ srcDebounce old = srcDebounce v) →
        justStored (0x055 + i.val) a w v s t)

/-! ## The control table (chapter 9) -/

/-- GUARD_WORD_A_WRITE, GUARD_BASE_STEP_WRITE and LEVEL_ADDRESS_WRITE: an enabled entry's words are locked.
Word A of an enabled guard entry is taken only if it disables the entry, its base and step not at all,
and the address word of an enabled level entry not at all; such a word is HELD, and neither the shadow
nor a record changes. The words of a disabled entry are stored and forwarded, word A with no bit outside
its fields, a step of 0 as 1 (R68, R143, R144, R145). -/
def Obligations.EnabledEntriesAreLocked : Prop :=
  ∀ (s : State) (a w : Word), s.handoffWord = some (a, w) →
    (∀ g : Fin 16, s.target a = .guardA g →
      ∃ t, exec .guardWordAWrite s = .next t ∧
        if bit (s.word (0x025 + 3 * g.val)) 0 = true ∧ bit w 0 = true then justHeld s t
        else justStored (0x025 + 3 * g.val) a w (w &&& 0x00FF) s t) ∧
    (∀ g : Fin 16, s.target a = .guardB g →
      ∃ t, exec .guardBaseStepWrite s = .next t ∧
        if bit (s.word (0x025 + 3 * g.val)) 0 = true then justHeld s t
        else justStored (0x026 + 3 * g.val) a w w s t) ∧
    (∀ g : Fin 16, s.target a = .guardC g →
      ∃ t, exec .guardBaseStepWrite s = .next t ∧
        if bit (s.word (0x025 + 3 * g.val)) 0 = true then justHeld s t
        else justStored (0x027 + 3 * g.val) a w (if w = 0 then 1 else w) s t) ∧
    ∀ i : Fin 9, s.target a = .levelAddr i →
      ∃ t, exec .levelAddressWrite s = .next t ∧
        if bit (s.word 0x017) i.val = true then justHeld s t
        else justStored (0x018 + i.val) a w w s t

/-- A write of word 0 of a channel's record, by the row that names what it changes or, where it changes
nothing with a row, by WRITE_WORD. CHANNEL_ENABLE starts the channel unseeded with nothing counted;
CHANNEL_DISABLE clears its flags and counts, with a CHANNEL record if it was in FAULT; a tripped channel
0 to 15 whose fellow is not tripped takes its module from OFF to RECOVERING with its MODULE record; a
channel 16 to 24 takes its member out of the trip cause set with the effect of a leaving member, and at
channels 16 and 17 the mismatch evaluator is cleared and MISMATCH leaves after it. A change that leaves
the channel enabled brings the counts within the new persistence and, with a new direction, sets the
persistence count to 0 and computes the factor and the state from the filtered value it holds (R17, R18,
R19, R20, R21, R28, R29, R38, R42, R101, R110, R151). Which row stands for a word of several changes is
the model's choice (log entry 7). -/
def Obligations.ChannelWordZeroWrites : Prop :=
  ∀ (c : Instr) (s : State) (a w : Word) (h : Fin 25),
    s.handoffWord = some (a, w) → s.target a = .channel h 0 →
    let old := s.chanCfg h
    let v := if field w 5 4 = 0 then (w &&& 0x01FF) ||| 0x0020 else w &&& 0x01FF
    let en := bit v 0
    let x := s.meas.chans[h]
    let fault : List Draft := if x.inFault = true then [⟨.channel, word h.val, 0, 0⟩] else []
    (c = .channelEnable ∧ old.enable = false ∧ en = true ∨
      c = .channelDisable ∧ old.enable = true ∧ en = false ∨
      c = .directionChange ∧ old.enable = true ∧ en = true ∧ old.low ≠ bit v 1 ∨
      c = .persistenceLower ∧ old.enable = true ∧ en = true ∧ field v 5 4 < old.pers ∨
      c = .calibrationWrite ∧ old.enable = en ∧ old.shift ≠ field v 2 3 ∨
      c = .writeWord ∧ old.enable = en ∧ old.shift = field v 2 3 ∧
        (en = true → old.low = bit v 1 ∧ old.pers ≤ field v 5 4)) →
    ∃ t, exec c s = .next t ∧
      wordStored (0x05A + 8 * h.val) v s t ∧ sweepStarted s t ∧ forwarded s t a w v .hostWrite ∧
      (old.enable = false → en = true →
        t.meas.chans = s.meas.chans.set h
          { x with unseeded := true, railCount := 0, persCount := 0, tripFlag := false,
                   inFault := false, factor := 4096, state := .normal }) ∧
      (old.enable = true → en = false →
        t.meas.chans = s.meas.chans.set h
          { x with unseeded := false, railCount := 0, persCount := 0, tripFlag := false,
                   inFault := false, factor := 4096, state := .disabled } ∧
        t.mis = (if h.val = 16 ∨ h.val = 17 then ⟨0, 4096, 0, false⟩ else s.mis) ∧
        (∀ n : Fin 8, n.val = h.val % 8 → h.val < 16 →
          let fellow := (s.meas.chans[(h.val + 8) % 16]).tripFlag
          let recovers := x.tripFlag = true ∧ fellow = false ∧ (s.mods.mods[n]).state = .off
          (recovers →
            t.mods = recount { s.mods with
              mods := s.mods.mods.set n ⟨.recovering, some (s.param offModHold * 100)⟩ } ∧
            reacted (Reaction.member s .modules s.mods.flag t.mods.flag
              ⟨s.ctl, s.arc.settle, fault ++ [⟨.module, word n.val, 3, word h.val⟩]⟩) s t) ∧
          (¬recovers → t.mods = s.mods ∧ t.ctl = s.ctl ∧ t.arc = s.arc ∧ submitted fault s t)) ∧
        (∀ i : Fin 9, h.val = 16 + i.val →
          let left := Reaction.member s (.chan i) x.tripFlag false ⟨s.ctl, s.arc.settle, fault⟩
          t.mods = s.mods ∧
          reacted (if h.val = 16 ∨ h.val = 17 then left.member s .mismatch s.mis.flag false else left)
            s t)) ∧
      (old.enable = true → en = true → ∃ y : Channel,
        t.meas.chans = s.meas.chans.set h y ∧
        y.instant = x.instant ∧ y.filtered = x.filtered ∧ y.unseeded = x.unseeded ∧
        y.tripFlag = x.tripFlag ∧ y.inFault = x.inFault ∧
        y.railCount = min x.railCount (field v 5 4) ∧
        y.persCount = (if old.low = bit v 1 then min x.persCount (field v 5 4) else 0) ∧
        y.factor = (if old.low = bit v 1 then x.factor else chanFactor (t.chanCfg h) x) ∧
        y.state = (if old.low = bit v 1 then x.state else chanState (t.chanCfg h) y)) ∧
      (old.enable = false → en = false → t.meas = s.meas) ∧
      (old.enable = false ∨ en = true →
        t.mis = s.mis ∧ t.mods = s.mods ∧ t.ctl = s.ctl ∧ t.arc = s.arc ∧ t.pub = s.pub) ∧
      t.arc = { s.arc with settle := t.arc.settle } ∧ t.meas.pulses = s.meas.pulses ∧
      t.meas.gate = s.meas.gate ∧
      ceilingsFollow s.ceil.eSys s.ceil.eMod t ∧ marksKept s t ∧ imageFollows s t ∧
      changesOnly [.shadow, .checker, .meas, .mis, .mods, .ceil, .image, .arc, .ctl, .port, .link,
        .pub] s t

/-- The other words of a channel's record. FOLD_SETTING_WRITE: an enabled channel's factor and state are
computed again from the filtered value it holds, and the ceilings follow; a disabled one's are not (R13,
R16, R19). TRIP_LEVEL_WRITE and CALIBRATION_WRITE: the value is stored and forwarded, and acts from the
next sample (R20, R21, R151). -/
def Obligations.ChannelSettingWrites : Prop :=
  ∀ (s : State) (a w : Word) (h : Fin 25) (k : Fin 8),
    s.handoffWord = some (a, w) → s.target a = .channel h k →
    let off := 0x05A + 8 * h.val + k.val
    (k = 3 ∨ k = 4 ∨ k = 7 →
      let v := if k = 7 then word (min 4096 w.toNat) else w
      let x := s.meas.chans[h]
      ∃ t, exec .foldSettingWrite s = .next t ∧
        wordStored off v s t ∧ sweepStarted s t ∧ forwarded s t a w v .hostWrite ∧
        ((s.chanCfg h).enable = false → t.meas = s.meas) ∧
        ((s.chanCfg h).enable = true → ∃ y : Channel,
          t.meas = { s.meas with chans := s.meas.chans.set h y } ∧
          y.factor = chanFactor (t.chanCfg h) x ∧ y.state = chanState (t.chanCfg h) y ∧
          y = { x with factor := y.factor, state := y.state }) ∧
        ceilingsFollow s.ceil.eSys s.ceil.eMod t ∧ marksKept s t ∧ imageFollows s t ∧
        changesOnly [.shadow, .checker, .meas, .ceil, .image, .port, .link] s t) ∧
    (k = 5 → ∃ t, exec .tripLevelWrite s = .next t ∧ justStored off a w w s t) ∧
    (k = 6 → ∃ t, exec .tripLevelWrite s = .next t ∧
      justStored off a w (word (min 32767 w.toNat)) s t) ∧
    (k = 1 ∨ k = 2 → ∃ t, exec .calibrationWrite s = .next t ∧ justStored off a w w s t)

/-- PRESENT_MASK_WRITE: a mask that names no module is HELD. Otherwise the eight low bits are stored and
forwarded and a sweep starts; a module whose bit clears becomes ABSENT, one whose bit sets becomes ON, or
OFF where it stands in trip, each with its effective ceiling at 0 and a MODULE record, in module order;
the counts and F_bal follow once, and if no module is ON any more in RESTART or RUN, MODULES takes the
controller to TRIPPED, while in other states MODULES only joins or leaves the trip cause set (R40, R41,
R42, R49, R56, R101, R107, R110, R120, R150). -/
def Obligations.PresentMaskWrites : Prop :=
  ∀ (s : State) (a w : Word), s.handoffWord = some (a, w) → s.target a = .param offPresentMask →
    let old := s.word offPresentMask
    let v := w &&& 0x00FF
    let running := s.ctl.state = .restart ∨ s.ctl.state = .run
    let changed (n : Fin 8) : Bool := bit old n.val != bit w n.val
    let becomes (n : Fin 8) : ModState :=
      if bit w n.val = false then .absent else if s.moduleTripped n = true then .off else .on
    let channel (n : Fin 8) : Word :=
      if becomes n = .off then
        (if (s.meas.chans[n.val]).tripFlag = true then word n.val else word (8 + n.val))
      else 0xFFFF
    let drafts : List Draft := ((List.finRange 8).filter changed).map fun n =>
      ⟨.module, word n.val, (becomes n).code, channel n⟩
    (v = 0 → ∃ t, exec .presentMaskWrite s = .next t ∧ justHeld s t) ∧
    (v ≠ 0 →
      ∃ t, exec .presentMaskWrite s = .next t ∧
        wordStored offPresentMask v s t ∧ sweepStarted s t ∧ forwarded s t a w v .hostWrite ∧
        (∀ n : Fin 8, t.mods.mods[n] =
          if changed n = true then ⟨becomes n, none⟩ else s.mods.mods[n]) ∧
        (drafts = [] → t.mods = s.mods) ∧ (drafts ≠ [] → t.mods = recount t.mods) ∧
        (∀ n : Fin 8, changed n = true → t.ceil.eMod[n] = 0) ∧
        ceilingsFollow s.ceil.eSys
          (Vector.ofFn fun n => if changed n = true then 0 else s.ceil.eMod[n]) t ∧
        marksKept s t ∧ imageFollows s t ∧
        (t.mods.flag = s.mods.flag → t.ctl = s.ctl ∧ t.arc = s.arc ∧ submitted drafts s t) ∧
        (s.mods.flag = false → t.mods.flag = true → running →
          t.ctl = { s.ctl with
            state := .tripped, inhibit := true, causes := s.ctl.causes.put .modules true } ∧
          t.arc = { s.arc with settle := some 50 } ∧
          submitted (drafts ++ [⟨.state, s.ctl.state.code, 5, 17⟩]) s t) ∧
        (t.mods.flag ≠ s.mods.flag → ¬(t.mods.flag = true ∧ running) →
          let causes := s.ctl.causes.put .modules t.mods.flag
          t.ctl = { s.ctl with
            causes := causes
            hold := if s.ctl.state = .tripped ∧ t.mods.flag = true then none
              else if s.ctl.state = .tripped ∧ causes.isEmpty = true
                then some (s.param offSysHold * 100) else s.ctl.hold } ∧
          t.arc = s.arc ∧ submitted drafts s t) ∧
        changesOnly [.shadow, .checker, .mods, .ceil, .image, .arc, .ctl, .port, .link, .pub] s t)

/-- The system parameters that act at their handoff, each saturated, stored and forwarded with a sweep
started. LIMIT_CAP_WRITE: C_raw is made of its inputs again, a fall taking E_sys with it (R48, R52).
MISMATCH_PARAMETER_WRITE: a lowered Pm reduces the mismatch count, and nothing is evaluated (R33).
INTERRUPTION_WINDOW_WRITE: the entries at or past the new window leave the list (R103).
SURGE_LEVEL_WRITE: the comparator compares against the new level, and a change of its output begins a
pending change of an enabled source 4 or cancels one (R81, R82); with a debounce of 0 µs it is a
transition at once (R81; that it is part of this event, log entry 11), disposed of as the
DEBOUNCED_TRANSITION of that change is (R86) (R149, R150). -/
def Obligations.ParametersThatActAtTheirHandoff : Prop :=
  ∀ (s : State) (a w : Word) (off : Nat), s.handoffWord = some (a, w) → s.target a = .param off →
    (off = 0x004 ∨ off = 0x011 ∨ off = 0x012 →
      ∃ t, exec .limitCapWrite s = .next t ∧
        let v := word (min 4096 w.toNat)
        wordStored off v s t ∧ sweepStarted s t ∧ forwarded s t a w v .hostWrite ∧
        ceilingsFollow s.ceil.eSys s.ceil.eMod t ∧ marksKept s t ∧ imageFollows s t ∧
        changesOnly [.shadow, .checker, .ceil, .image, .port, .link] s t) ∧
    (off = 0x00D ∨ off = 0x00E ∨ off = 0x00F ∨ off = 0x010 →
      ∃ t, exec .mismatchParameterWrite s = .next t ∧
        let v := max 1 (min (if off = 0x010 then 15 else 4096) w.toNat)
        wordStored off (word v) s t ∧ sweepStarted s t ∧ forwarded s t a w (word v) .hostWrite ∧
        t.mis = { s.mis with count := if off = 0x010 then min s.mis.count v else s.mis.count } ∧
        changesOnly [.shadow, .checker, .mis, .port, .link] s t) ∧
    (off = 0x009 →
      ∃ t, exec .interruptionWindowWrite s = .next t ∧
        let v := max 1 (min 600 w.toNat)
        wordStored off (word v) s t ∧ sweepStarted s t ∧ forwarded s t a w (word v) .hostWrite ∧
        t.ctl = { s.ctl with
          list := s.ctl.list.filter fun e => decide ((s.ms - e.time).toNat < v * 1000) } ∧
        changesOnly [.shadow, .checker, .ctl, .port, .link] s t) ∧
    (off = 0x014 →
      let v := max 1 (min 4096 w.toNat)
      let level : Bool := decide (v ≤ s.arc.surgeInput)
      let x := s.arc.sources[4]
      let d := srcDebounce (s.sourceWord 4)
      let began : Option Pending := some ⟨level, d⟩
      let change : Option Pending :=
        if level = x.accepted then none else if x.change = none then began else x.change
      let atOnce := x.state ≠ .disabled ∧ level ≠ x.accepted ∧ x.change = none ∧ d = 0
      ∃ t, exec .surgeLevelWrite s = .next t ∧
        wordStored off (word v) s t ∧ sweepStarted s t ∧ forwarded s t a w (word v) .hostWrite ∧
        (x.state = .disabled → t.arc = s.arc) ∧
        (x.state ≠ .disabled → ¬atOnce →
          t.arc = { s.arc with
            sources := s.arc.sources.set 4 ⟨x.state, x.accepted, change⟩ }) ∧
        (¬atOnce → changesOnly [.shadow, .checker, .arc, .port, .link] s t) ∧
        (atOnce → (t.arc.sources[4]).accepted = level ∧ (t.arc.sources[4]).change = none ∧
          changesOnly [.shadow, .checker, .ceil, .image, .arc, .ctl, .port, .link, .pub] s t ∧
          ∃ u, wordStored off (word v) s u ∧ sweepStarted s u ∧
            forwarded s u a w (word v) .hostWrite ∧
            u.arc = { s.arc with
              sources := s.arc.sources.set 4 ⟨x.state, x.accepted, some ⟨level, 0⟩⟩ } ∧
            changesOnly [.shadow, .checker, .arc, .port, .link] s u ∧
            exec (.debouncedTransition 4) u = .next t))

/-- SWEEP_COMPLETION: the words not yet read are read, and the check is compared with the reference; a change
of verdict sets or clears the fallback mark, makes the ceilings again and submits a VERDICT record; a
sweep from its start covers the words 0x003 to 0x121 (R46, R156, R157). That the words not yet read are
read at the completion, from the position the sweep's start gave it, is the model's choice (log entry
4); what the check computes, `FramesAreTestedInOrder` says. -/
def Obligations.SweepsJudgeTheTable : Prop :=
  ∀ (s : State) (position : Nat) (check : Word), s.resetHeld = false →
    s.checker.sweep = .running position check →
    ∃ (t : State) (computed : Word), exec .sweepCompletion s = .next (settle t) ∧
      computed = crcFrom check ((List.range (0x122 - position)).map fun i => s.word (position + i)) ∧
      (position = 0x003 → check = 0xFFFF →
        computed = crc ((List.range 287).map fun i => s.word (0x003 + i))) ∧
      let v : Verdict := if computed = s.word 0x002 then .agree else .disagree
      t.checker = { s.checker with verdict := v, sweep := .idle } ∧
      (s.checker.verdict = v → t.ceil = s.ceil ∧ t.pub = s.pub) ∧
      (s.checker.verdict ≠ v →
        t.ceil.fallbackMark = decide (v ≠ .agree) ∧ t.ceil.unprovenMark = s.ceil.unprovenMark ∧
        t.ceil.ramp = s.ceil.ramp ∧ ceilingsFollow s.ceil.eSys s.ceil.eMod t ∧
        submitted [⟨.verdict, 0, v.code, computed⟩] s t) ∧
      imageFollows s t ∧ changesOnly [.checker, .ceil, .image, .pub] s t

/-! ## Publication (chapter 10) -/

/-- CONSUMED_INDEX_WRITE: a value above 31, or one that passes the write index counted from the index the
host gave last, is HELD, and no sweep starts. Any other is stored and forwarded; ALERT is released if it
equals the write index; and with no record in progress and the ring full by it, the records that wait are
dropped and counted (R153, R163, R164). -/
def Obligations.ConsumedIndexWrites : Prop :=
  ∀ (s : State) (a w : Word), s.handoffWord = some (a, w) → s.target a = .consumed →
    let last := s.param offConsumed % 32
    let ahead (x : Nat) := (x + 32 - last) % 32
    let takes := w.toNat ≤ 31 ∧ ahead w.toNat ≤ ahead s.pub.writeIndex.val
    let full := (s.pub.writeIndex.val + 1) % 32 = w.toNat
    ∃ t, exec .consumedIndexWrite s = .next t ∧
      (¬takes → heldBack s t ∧ changesOnly [.link] s t) ∧
      (takes →
        wordStored offConsumed w s t ∧ forwarded s t a w w .hostWrite ∧
        t.pub = { s.pub with
          alert := s.pub.alert && decide (s.pub.writeIndex.val ≠ w.toNat)
          fifo := if s.pub.current = none ∧ full then [] else s.pub.fifo
          lost := if s.pub.current = none ∧ full
            then min 65535 (s.pub.lost + s.pub.fifo.length) else s.pub.lost } ∧
        changesOnly [.shadow, .port, .link, .pub] s t)

/-- PUBLICATION_WRITE_GRANT, when no other class has work: the record in progress goes on with its next word;
with none, the head of the FIFO begins, its serial and its address taken then; with none either, the
snapshot in progress goes on, its first write the odd sequence count, its last the even one, and between
them the content words in ascending order, the time taken at the first (R160, R161, R163, sections 11.3
and 11.4). What each word of the status block holds of the state, with the codes (sections 11.2 and
11.3). -/
def Obligations.PublicationWritesAreGranted : Prop :=
  ([CtlState.start, .standby, .restart, .run, .blank, .tripped, .lockout].map CtlState.code =
      [0, 1, 2, 3, 4, 5, 6] ∧
    [ModState.absent, .on, .off, .recovering].map ModState.code = [0, 1, 2, 3] ∧
    [SourceState.disabled, .untested, .passed, .failed, .suspect].map SourceState.code =
      [0, 1, 2, 3, 4] ∧
    [ChanState.disabled, .fault, .tripped, .folding, .normal].map ChanState.code = [0, 1, 2, 3, 4] ∧
    [Verdict.unchecked, .agree, .disagree].map Verdict.code = [0, 1, 2] ∧
    [CmdResult.none, .taken, .refusedState, .refusedBusy, .refusedSource, .unknown].map CmdResult.code =
      [0, 1, 2, 3, 4, 5] ∧
    [RecKind.reset, .state, .interruption, .suspect, .module, .channel, .verdict, .link, .proof].map
      RecKind.code = [1, 2, 3, 4, 5, 6, 7, 8, 9]) ∧
  (∀ (s : State) (time : Time),
    let held (off : Nat) : Word := statusWord s time off
    held 0x201 = word (time.toNat % 65536) ∧ held 0x202 = word (time.toNat / 65536) ∧
    held 0x203 = s.ctl.state.code ∧
    (∀ b : Fin 16, bit (held 0x204) b.val =
      if h : b.val < 9 then s.ctl.causes.chans[b.val] else
        (decide (b.val = 9) && s.ctl.causes.mismatch || decide (b.val = 10) && s.ctl.causes.modules)) ∧
    held 0x205 = word s.ceil.cRaw ∧ held 0x206 = word s.ceil.eSys ∧ held 0x207 = word s.mis.factor ∧
    held 0x208 = word s.mis.q ∧ held 0x209 = word s.mods.fBal ∧
    (s.mods.nOn ≤ 8 → s.mods.nPresent ≤ 8 →
      field (held 0x20A) 0 8 = s.mods.nOn ∧ field (held 0x20A) 8 8 = s.mods.nPresent) ∧
    (∀ b : Fin 16, bit (held 0x20B) b.val =
      (decide (b.val = 0) && s.ceil.fallbackMark || decide (b.val = 1) && s.ceil.unprovenMark)) ∧
    field (held 0x20C) 0 8 = s.checker.verdict.code.toNat ∧
    field (held 0x20C) 8 8 = (if s.checker.sweep = .idle then 0 else 1) ∧
    ((∀ c, s.ctl.lastCode = some c → c ≤ 255) → field (held 0x20D) 0 8 = s.ctl.lastCode.getD 0) ∧
    field (held 0x20D) 8 8 = s.ctl.lastResult.code ∧
    held 0x20E = word s.pub.writeIndex.val ∧ held 0x20F = word s.pub.lost ∧
    held 0x210 = word s.ctl.list.length ∧
    (∀ i : Fin 5, held (0x211 + i.val) = (s.arc.sources[i]).state.code) ∧
    (s.arc.proof = none → held 0x216 = 0xFFFF) ∧
    (∀ p, s.arc.proof = some p → held 0x216 = word p.source.val) ∧
    (∀ n : Fin 8, held (0x218 + 2 * n.val) = (s.mods.mods[n]).state.code ∧
      held (0x219 + 2 * n.val) = word (s.ceil.eMod[n])) ∧
    (∀ i : Fin 9,
      (∀ r, s.image.recs[i] = some r → r.capture = .tracking →
        held (0x228 + 2 * i.val) = word r.requested ∧ held (0x229 + 2 * i.val) = word r.applied) ∧
      ((∀ r, s.image.recs[i] = some r → r.capture = .capturing) →
        held (0x228 + 2 * i.val) = 0 ∧ held (0x229 + 2 * i.val) = 0)) ∧
    ∀ c : Fin 25,
      let x := s.meas.chans[c]
      held (0x240 + 4 * c.val) = BitVec.ofInt 16 x.instant ∧
      held (0x241 + 4 * c.val) = BitVec.ofInt 16 x.filtered ∧
      held (0x242 + 4 * c.val) = x.state.code ∧ held (0x243 + 4 * c.val) = word x.factor) ∧
  ∀ s : State, s.resetHeld = false → s.port = ⟨none, []⟩ → s.image.queue = [] →
    s.hostWork = false →
    let issues (x : State) (p : Purpose) (off : Nat) (v : Word) : State :=
      { x with port := ⟨some ⟨p, s.tableAddr off, .write v⟩, []⟩ }
    let words (r : Record) : List Word :=
      [word r.draft.kind.code, r.time.extractLsb' 0 16, r.time.extractLsb' 16 16, r.draft.subject,
        r.draft.valueA, r.draft.valueB, r.ctl.code, s.pub.serial]
    let slot := 0x300 + 8 * s.pub.writeIndex.val
    (∀ (r : Record) (k : Nat) (v : Word), s.pub.current = some ⟨r, k⟩ → (words r)[k]? = some v →
      exec .publicationWriteGrant s = .next
        (issues { s with pub := { s.pub with current := some ⟨r, k + 1⟩ } } .recordWord (slot + k) v)) ∧
    (∀ (r : Record) (rest : List Record), s.pub.current = none → s.pub.fifo = r :: rest →
      ringFull (s.word offConsumed) s.pub = false →
      exec .publicationWriteGrant s = .next
        (issues { s with pub := { s.pub with current := some ⟨r, 1⟩, fifo := rest } } .recordWord slot
          (word r.draft.kind.code))) ∧
    (∀ x : Snapshot, s.pub.current = none → s.pub.fifo = [] → s.pub.lost ≤ 65535 →
      s.pub.snapshot = some x →
      let goes (time : Time) : State :=
        { s with pub := { s.pub with snapshot := some ⟨x.next + 1, time⟩ } }
      (x.next = 0 → exec .publicationWriteGrant s = .next
        (issues (goes x.time) .snapshotWord 0x200 (s.pub.seq + 1))) ∧
      (x.next = 157 → exec .publicationWriteGrant s = .next
        (issues (goes x.time) .snapshotWord 0x200 (s.pub.seq + 2))) ∧
      (∀ off, 1 ≤ x.next → x.next ≤ 156 →
        off = 0x200 + x.next + (if x.next ≤ 22 then 0 else if x.next ≤ 56 then 1 else 7) →
        let time := if x.next = 1 then s.ms else x.time
        exec .publicationWriteGrant s = .next
          (issues (goes time) .snapshotWord off (statusWord s time off))))

/-- SNAPSHOT_WORD_COMPLETION and RECORD_WORD_COMPLETION free the port. The snapshot's last write ends it and
advances the sequence count by 2; the record's eighth advances the write index and the serial, asserts
ALERT if the alert mask names its kind, and the ring is then tested, a full one dropping and counting
the records that wait (R160, R163, R164). -/
def Obligations.PublicationWritesComplete : Prop :=
  ∀ (s : State) (a : Word) (k : AccessKind), s.resetHeld = false →
    let free (x : Publication) : State := { s with port := { s.port with inFlight := none }, pub := x }
    (s.port.inFlight = some ⟨.snapshotWord, a, k⟩ → ∀ x, s.pub.snapshot = some x →
      (x.next ≠ 158 → exec .snapshotWordCompletion s = .next (settle (free s.pub))) ∧
      (x.next = 158 → exec .snapshotWordCompletion s = .next (settle
        (free { s.pub with snapshot := none, seq := s.pub.seq + 2 })))) ∧
    (s.port.inFlight = some ⟨.recordWord, a, k⟩ → ∀ r n, s.pub.current = some ⟨r, n⟩ →
      (n ≠ 8 → exec .recordWordCompletion s = .next (settle (free s.pub))) ∧
      (n = 8 →
        let full := (s.pub.writeIndex.val + 2) % 32 = s.param offConsumed % 32
        exec .recordWordCompletion s = .next (settle
          (free { s.pub with
            current := none
            writeIndex := s.pub.writeIndex + 1
            serial := s.pub.serial + 1
            alert := s.pub.alert || bit (s.word offAlertMask) (r.draft.kind.code - 1)
            fifo := if full then [] else s.pub.fifo
            lost := if full then min 65535 (s.pub.lost + s.pub.fifo.length) else s.pub.lost }))))

/-- The submission of an event's records: each is composed with the counter and the controller's state as the
event leaves them, in their order; with a record in progress or a ring that is not full, each joins the
FIFO while that holds fewer than 8, and is dropped and counted if not; with no record in progress and the
ring full, nothing is left waiting and all are counted, up to 65535; the rest of the publication unit
stands (R162, R163). -/
def Obligations.RecordsAreQueuedOrCounted : Prop :=
  ∀ (ds : List Draft) (s : State),
    let t := submitAll ds s
    let stuck := s.pub.current = none ∧ ringFull (s.word offConsumed) s.pub = true
    let made : List Record := ds.map fun d => ⟨d, s.ms, s.ctl.state⟩
    let room := 8 - s.pub.fifo.length
    t = { s with pub := { s.pub with fifo := t.pub.fifo, lost := t.pub.lost } } ∧
    (¬stuck → s.pub.lost ≤ 65535 →
      t.pub.fifo = s.pub.fifo ++ made.take room ∧
      t.pub.lost = min 65535 (s.pub.lost + (ds.length - room))) ∧
    (stuck → ds ≠ [] → s.pub.lost ≤ 65535 → s.pub.fifo.length < 8 →
      t.pub.fifo = [] ∧ t.pub.lost = min 65535 (s.pub.lost + s.pub.fifo.length + ds.length))

/-! ## Invariants and rules of the whole part -/

/-- Invariant: while the reset input is held the part is in its reset state; the other blocks rest until load
completion (R155); the load goes through the offsets in order and leaves only valid words behind it
(R149, R154); from load completion on there is a level record for each enabled entry and for no other,
holding the entry's address (R60, R62, R65, R68). Every step keeps it. -/
def Obligations.StartUpInvariant : Prop :=
  ∀ s t : State, heldInReset s ∧ startsAtLoad s ∧ shadowRight s ∧ levelsRight s → step s = .next t →
    heldInReset t ∧ startsAtLoad t ∧ shadowRight t ∧ levelsRight t

/-- Invariant: every channel's factor and state are what its settings and live state make them, every module's
state agrees with its trip flags, its timer and the present mask, and the trip cause set has exactly the
members whose flags are set (R7, R13, R16, R18, R37, R38, R40, R41, R101). Every step keeps it, beside
the start-up's. -/
def Obligations.MeasurementInvariant : Prop :=
  ∀ s t : State, heldInReset s ∧ startsAtLoad s ∧ shadowRight s → channelsRight s ∧ modulesRight s ∧
    causesRight s → step s = .next t → channelsRight t ∧ modulesRight t ∧ causesRight t

/-- Invariant, the part's promise to the transmitter: INHIBIT is asserted in every muted state and in reset,
E_sys is 0 in every muted state and never above C_raw, RF is never on with a trip cause present, and the
recovery hold runs only in TRIPPED with none (R50, R99, R101, R107, R110). Every step keeps it. -/
def Obligations.RFSafetyInvariant : Prop :=
  ∀ s t : State, startsAtLoad s → rfSafe s → step s = .next t → rfSafe t

/-- Invariant: each raw ceiling is what its inputs make it, no module's effective ceiling is above its raw
one, the fallback mark is set exactly while the verdict is not AGREE and the unproven mark exactly while
a source is FAILED or SUSPECT (R44, R46, R47, R49, R56). Every step keeps it. -/
def Obligations.CeilingInvariant : Prop :=
  ∀ s t : State, heldInReset s → startsAtLoad s → ceilingsRight s → step s = .next t → ceilingsRight t

/-- Invariant: the image write queue holds one write a record at most, each of a tracking record, and a
tracking record with nothing queued and nothing in flight holds its target (R59, R60, R64, R69, R70).
Every step keeps it, beside the start-up's. -/
def Obligations.DriveImageInvariant : Prop :=
  ∀ s t : State, heldInReset s ∧ startsAtLoad s ∧ shadowRight s ∧ levelsRight s → imageRight s →
    step s = .next t → imageRight t

/-- Invariant: the interruption list stays within 8 entries, oldest first, none past the window (R102, R103,
R104); at most 8 records wait, and one is written only into a slot that is not the last free one (R162,
R163); the arbiter has no grant left to make of its own accord (R133). Every step keeps it, beside the
start-up's. -/
def Obligations.ListsAndRecordsInvariant : Prop :=
  ∀ s t : State, heldInReset s ∧ startsAtLoad s → interruptionsRight s ∧ recordsRight s ∧ settled s →
    step s = .next t → interruptionsRight t ∧ recordsRight t ∧ settled t

/-- The state after power-on reset meets every one of these invariants. -/
def Obligations.ResetMeetsTheInvariants : Prop :=
  (heldInReset State.reset ∧ startsAtLoad State.reset ∧ shadowRight State.reset ∧
    levelsRight State.reset) ∧
  (channelsRight State.reset ∧ modulesRight State.reset ∧ causesRight State.reset) ∧
  rfSafe State.reset ∧ ceilingsRight State.reset ∧ imageRight State.reset ∧
  interruptionsRight State.reset ∧ recordsRight State.reset ∧ settled State.reset

/-- How RF comes on, over all commands. The controller enters RUN only from RESTART, at a ramp expiry that
leaves E_sys at C_raw (R55, R113); E_sys rises only at a ramp expiry or at an entry into RESTART (R51,
R54); INHIBIT is released only by an entry into RESTART (R99); and LOCKOUT is left only by a RELEASE
command or a reset (R104, R114, R118). -/
def Obligations.RFComesOnOnlyThroughRestart : Prop :=
  ∀ (c : Instr) (s t : State), exec c s = .next t →
    (s.ctl.state ≠ .run → t.ctl.state = .run →
      c = .rampExpiry ∧ s.ctl.state = .restart ∧ t.ceil.eSys = t.ceil.cRaw) ∧
    (s.ceil.eSys < t.ceil.eSys →
      c = .rampExpiry ∨ (s.ctl.state ≠ .restart ∧ t.ctl.state = .restart)) ∧
    (rfSafe s → s.ctl.inhibit = true → t.ctl.inhibit = false →
      s.ctl.state ≠ .restart ∧ t.ctl.state = .restart) ∧
    (startsAtLoad s → s.ctl.state = .lockout → t.ctl.state ≠ .lockout →
      c = .release ∨ ∃ k, c = .reset k)

/-- The stored settings, over all commands but RESET, from load completion on: a stored value changes only at
the handoff of the host's word to it, which forwards the value stored (R148, R149); and the words of an
enabled guard entry change only by a write of its word A that disables it (R143, R144). -/
def Obligations.StoredSettingsChangeOnlyAtHandoffs : Prop :=
  ∀ (c : Instr) (s t : State), s.loaded = true → s.resetHeld = false → (∀ k, c ≠ .reset k) →
    exec c s = .next t →
    (∀ off, 1 ≤ off → off ≤ 0x121 → t.word off ≠ s.word off →
      ∃ a w, s.handoffWord = some (a, w) ∧ (s.target a).offset = some off ∧
        t.port.inFlight = some ⟨.hostWrite, a, .write (t.word off)⟩ ∧
        ∀ k, 1 ≤ k → k ≠ off → t.word k = s.word k) ∧
    (∀ g : Fin 16, bit (s.word (0x025 + 3 * g.val)) 0 = true →
      t.word (0x026 + 3 * g.val) = s.word (0x026 + 3 * g.val) ∧
      t.word (0x027 + 3 * g.val) = s.word (0x027 + 3 * g.val) ∧
      (t.word (0x025 + 3 * g.val) = s.word (0x025 + 3 * g.val) ∨
        (c = .guardWordAWrite ∧ bit (t.word (0x025 + 3 * g.val)) 0 = false)))
end

