-- ==== Sys2Proof/Laws/State.lean ====
section
/-! SUPPORT. What each update of the state leaves alone, field by field, true by definition. The six
updates of Machine/Ops.lean and their like have one lemma per field; every other update has one lemma,
`<name>_frame`, that says all of it at once. -/

namespace Sys2Proof.Machine

open Sys2Proof Sys2Proof.Config

/-! ## The elementary updates -/

@[simp] theorem State.store_resetHeld (s : State) (off : Nat) (w : Word) : (s.store off w).resetHeld = s.resetHeld := rfl
@[simp] theorem State.store_resetKind (s : State) (off : Nat) (w : Word) : (s.store off w).resetKind = s.resetKind := rfl
@[simp] theorem State.store_straps (s : State) (off : Nat) (w : Word) : (s.store off w).straps = s.straps := rfl
@[simp] theorem State.store_ms (s : State) (off : Nat) (w : Word) : (s.store off w).ms = s.ms := rfl
@[simp] theorem State.store_shadow (s : State) (off : Nat) (w : Word) :
    (s.store off w).shadow = s.shadow.setIfInBounds (off - 1) w := rfl
@[simp] theorem State.store_loader (s : State) (off : Nat) (w : Word) : (s.store off w).loader = s.loader := rfl
@[simp] theorem State.store_checker (s : State) (off : Nat) (w : Word) : (s.store off w).checker = s.checker := rfl
@[simp] theorem State.store_meas (s : State) (off : Nat) (w : Word) : (s.store off w).meas = s.meas := rfl
@[simp] theorem State.store_mis (s : State) (off : Nat) (w : Word) : (s.store off w).mis = s.mis := rfl
@[simp] theorem State.store_mods (s : State) (off : Nat) (w : Word) : (s.store off w).mods = s.mods := rfl
@[simp] theorem State.store_ceil (s : State) (off : Nat) (w : Word) : (s.store off w).ceil = s.ceil := rfl
@[simp] theorem State.store_image (s : State) (off : Nat) (w : Word) : (s.store off w).image = s.image := rfl
@[simp] theorem State.store_arc (s : State) (off : Nat) (w : Word) : (s.store off w).arc = s.arc := rfl
@[simp] theorem State.store_ctl (s : State) (off : Nat) (w : Word) : (s.store off w).ctl = s.ctl := rfl
@[simp] theorem State.store_link (s : State) (off : Nat) (w : Word) : (s.store off w).link = s.link := rfl
@[simp] theorem State.store_stepped (s : State) (off : Nat) (w : Word) : (s.store off w).stepped = s.stepped := rfl
@[simp] theorem State.store_port (s : State) (off : Nat) (w : Word) : (s.store off w).port = s.port := rfl
@[simp] theorem State.store_pub (s : State) (off : Nat) (w : Word) : (s.store off w).pub = s.pub := rfl
@[simp] theorem State.store_pending (s : State) (off : Nat) (w : Word) : (s.store off w).pending = s.pending := rfl

@[simp] theorem State.begin_resetHeld (s : State) (p : Purpose) (a : Word) (k : AccessKind) : (s.begin p a k).resetHeld = s.resetHeld := rfl
@[simp] theorem State.begin_resetKind (s : State) (p : Purpose) (a : Word) (k : AccessKind) : (s.begin p a k).resetKind = s.resetKind := rfl
@[simp] theorem State.begin_straps (s : State) (p : Purpose) (a : Word) (k : AccessKind) : (s.begin p a k).straps = s.straps := rfl
@[simp] theorem State.begin_ms (s : State) (p : Purpose) (a : Word) (k : AccessKind) : (s.begin p a k).ms = s.ms := rfl
@[simp] theorem State.begin_shadow (s : State) (p : Purpose) (a : Word) (k : AccessKind) : (s.begin p a k).shadow = s.shadow := rfl
@[simp] theorem State.begin_loader (s : State) (p : Purpose) (a : Word) (k : AccessKind) : (s.begin p a k).loader = s.loader := rfl
@[simp] theorem State.begin_checker (s : State) (p : Purpose) (a : Word) (k : AccessKind) : (s.begin p a k).checker = s.checker := rfl
@[simp] theorem State.begin_meas (s : State) (p : Purpose) (a : Word) (k : AccessKind) : (s.begin p a k).meas = s.meas := rfl
@[simp] theorem State.begin_mis (s : State) (p : Purpose) (a : Word) (k : AccessKind) : (s.begin p a k).mis = s.mis := rfl
@[simp] theorem State.begin_mods (s : State) (p : Purpose) (a : Word) (k : AccessKind) : (s.begin p a k).mods = s.mods := rfl
@[simp] theorem State.begin_ceil (s : State) (p : Purpose) (a : Word) (k : AccessKind) : (s.begin p a k).ceil = s.ceil := rfl
@[simp] theorem State.begin_image (s : State) (p : Purpose) (a : Word) (k : AccessKind) : (s.begin p a k).image = s.image := rfl
@[simp] theorem State.begin_arc (s : State) (p : Purpose) (a : Word) (k : AccessKind) : (s.begin p a k).arc = s.arc := rfl
@[simp] theorem State.begin_ctl (s : State) (p : Purpose) (a : Word) (k : AccessKind) : (s.begin p a k).ctl = s.ctl := rfl
@[simp] theorem State.begin_link (s : State) (p : Purpose) (a : Word) (k : AccessKind) : (s.begin p a k).link = s.link := rfl
@[simp] theorem State.begin_stepped (s : State) (p : Purpose) (a : Word) (k : AccessKind) : (s.begin p a k).stepped = s.stepped := rfl
@[simp] theorem State.begin_port (s : State) (p : Purpose) (a : Word) (k : AccessKind) :
    (s.begin p a k).port = { s.port with inFlight := some { purpose := p, addr := a, kind := k } } := rfl
@[simp] theorem State.begin_pub (s : State) (p : Purpose) (a : Word) (k : AccessKind) : (s.begin p a k).pub = s.pub := rfl
@[simp] theorem State.begin_pending (s : State) (p : Purpose) (a : Word) (k : AccessKind) : (s.begin p a k).pending = s.pending := rfl

@[simp] theorem State.popClass1_resetHeld (s : State) (r : List Class1) : (s.popClass1 r).resetHeld = s.resetHeld := rfl
@[simp] theorem State.popClass1_resetKind (s : State) (r : List Class1) : (s.popClass1 r).resetKind = s.resetKind := rfl
@[simp] theorem State.popClass1_straps (s : State) (r : List Class1) : (s.popClass1 r).straps = s.straps := rfl
@[simp] theorem State.popClass1_ms (s : State) (r : List Class1) : (s.popClass1 r).ms = s.ms := rfl
@[simp] theorem State.popClass1_shadow (s : State) (r : List Class1) : (s.popClass1 r).shadow = s.shadow := rfl
@[simp] theorem State.popClass1_loader (s : State) (r : List Class1) : (s.popClass1 r).loader = s.loader := rfl
@[simp] theorem State.popClass1_checker (s : State) (r : List Class1) : (s.popClass1 r).checker = s.checker := rfl
@[simp] theorem State.popClass1_meas (s : State) (r : List Class1) : (s.popClass1 r).meas = s.meas := rfl
@[simp] theorem State.popClass1_mis (s : State) (r : List Class1) : (s.popClass1 r).mis = s.mis := rfl
@[simp] theorem State.popClass1_mods (s : State) (r : List Class1) : (s.popClass1 r).mods = s.mods := rfl
@[simp] theorem State.popClass1_ceil (s : State) (r : List Class1) : (s.popClass1 r).ceil = s.ceil := rfl
@[simp] theorem State.popClass1_image (s : State) (r : List Class1) : (s.popClass1 r).image = s.image := rfl
@[simp] theorem State.popClass1_arc (s : State) (r : List Class1) : (s.popClass1 r).arc = s.arc := rfl
@[simp] theorem State.popClass1_ctl (s : State) (r : List Class1) : (s.popClass1 r).ctl = s.ctl := rfl
@[simp] theorem State.popClass1_link (s : State) (r : List Class1) : (s.popClass1 r).link = s.link := rfl
@[simp] theorem State.popClass1_stepped (s : State) (r : List Class1) : (s.popClass1 r).stepped = s.stepped := rfl
@[simp] theorem State.popClass1_port (s : State) (r : List Class1) :
    (s.popClass1 r).port = { s.port with class1 := r } := rfl
@[simp] theorem State.popClass1_pub (s : State) (r : List Class1) : (s.popClass1 r).pub = s.pub := rfl
@[simp] theorem State.popClass1_pending (s : State) (r : List Class1) : (s.popClass1 r).pending = s.pending := rfl

@[simp] theorem State.issue_resetHeld (s : State) (c : Class1) : (s.issue c).resetHeld = s.resetHeld := rfl
@[simp] theorem State.issue_resetKind (s : State) (c : Class1) : (s.issue c).resetKind = s.resetKind := rfl
@[simp] theorem State.issue_straps (s : State) (c : Class1) : (s.issue c).straps = s.straps := rfl
@[simp] theorem State.issue_ms (s : State) (c : Class1) : (s.issue c).ms = s.ms := rfl
@[simp] theorem State.issue_shadow (s : State) (c : Class1) : (s.issue c).shadow = s.shadow := rfl
@[simp] theorem State.issue_loader (s : State) (c : Class1) : (s.issue c).loader = s.loader := rfl
@[simp] theorem State.issue_checker (s : State) (c : Class1) : (s.issue c).checker = s.checker := rfl
@[simp] theorem State.issue_meas (s : State) (c : Class1) : (s.issue c).meas = s.meas := rfl
@[simp] theorem State.issue_mis (s : State) (c : Class1) : (s.issue c).mis = s.mis := rfl
@[simp] theorem State.issue_mods (s : State) (c : Class1) : (s.issue c).mods = s.mods := rfl
@[simp] theorem State.issue_ceil (s : State) (c : Class1) : (s.issue c).ceil = s.ceil := rfl
@[simp] theorem State.issue_image (s : State) (c : Class1) : (s.issue c).image = s.image := rfl
@[simp] theorem State.issue_arc (s : State) (c : Class1) : (s.issue c).arc = s.arc := rfl
@[simp] theorem State.issue_ctl (s : State) (c : Class1) : (s.issue c).ctl = s.ctl := rfl
@[simp] theorem State.issue_link (s : State) (c : Class1) : (s.issue c).link = s.link := rfl
@[simp] theorem State.issue_stepped (s : State) (c : Class1) : (s.issue c).stepped = s.stepped := rfl
@[simp] theorem State.issue_port (s : State) (c : Class1) :
    (s.issue c).port = { s.port with class1 := s.port.class1 ++ [c] } := rfl
@[simp] theorem State.issue_pub (s : State) (c : Class1) : (s.issue c).pub = s.pub := rfl
@[simp] theorem State.issue_pending (s : State) (c : Class1) : (s.issue c).pending = s.pending := rfl

@[simp] theorem State.portFree_resetHeld (s : State) : (s.portFree).resetHeld = s.resetHeld := rfl
@[simp] theorem State.portFree_resetKind (s : State) : (s.portFree).resetKind = s.resetKind := rfl
@[simp] theorem State.portFree_straps (s : State) : (s.portFree).straps = s.straps := rfl
@[simp] theorem State.portFree_ms (s : State) : (s.portFree).ms = s.ms := rfl
@[simp] theorem State.portFree_shadow (s : State) : (s.portFree).shadow = s.shadow := rfl
@[simp] theorem State.portFree_loader (s : State) : (s.portFree).loader = s.loader := rfl
@[simp] theorem State.portFree_checker (s : State) : (s.portFree).checker = s.checker := rfl
@[simp] theorem State.portFree_meas (s : State) : (s.portFree).meas = s.meas := rfl
@[simp] theorem State.portFree_mis (s : State) : (s.portFree).mis = s.mis := rfl
@[simp] theorem State.portFree_mods (s : State) : (s.portFree).mods = s.mods := rfl
@[simp] theorem State.portFree_ceil (s : State) : (s.portFree).ceil = s.ceil := rfl
@[simp] theorem State.portFree_image (s : State) : (s.portFree).image = s.image := rfl
@[simp] theorem State.portFree_arc (s : State) : (s.portFree).arc = s.arc := rfl
@[simp] theorem State.portFree_ctl (s : State) : (s.portFree).ctl = s.ctl := rfl
@[simp] theorem State.portFree_link (s : State) : (s.portFree).link = s.link := rfl
@[simp] theorem State.portFree_stepped (s : State) : (s.portFree).stepped = s.stepped := rfl
@[simp] theorem State.portFree_port (s : State) :
    (s.portFree).port = { s.port with inFlight := none } := rfl
@[simp] theorem State.portFree_pub (s : State) : (s.portFree).pub = s.pub := rfl
@[simp] theorem State.portFree_pending (s : State) : (s.portFree).pending = s.pending := rfl

@[simp] theorem State.updLink_resetHeld (s : State) (f : Link → Link) : (s.updLink f).resetHeld = s.resetHeld := rfl
@[simp] theorem State.updLink_resetKind (s : State) (f : Link → Link) : (s.updLink f).resetKind = s.resetKind := rfl
@[simp] theorem State.updLink_straps (s : State) (f : Link → Link) : (s.updLink f).straps = s.straps := rfl
@[simp] theorem State.updLink_ms (s : State) (f : Link → Link) : (s.updLink f).ms = s.ms := rfl
@[simp] theorem State.updLink_shadow (s : State) (f : Link → Link) : (s.updLink f).shadow = s.shadow := rfl
@[simp] theorem State.updLink_loader (s : State) (f : Link → Link) : (s.updLink f).loader = s.loader := rfl
@[simp] theorem State.updLink_checker (s : State) (f : Link → Link) : (s.updLink f).checker = s.checker := rfl
@[simp] theorem State.updLink_meas (s : State) (f : Link → Link) : (s.updLink f).meas = s.meas := rfl
@[simp] theorem State.updLink_mis (s : State) (f : Link → Link) : (s.updLink f).mis = s.mis := rfl
@[simp] theorem State.updLink_mods (s : State) (f : Link → Link) : (s.updLink f).mods = s.mods := rfl
@[simp] theorem State.updLink_ceil (s : State) (f : Link → Link) : (s.updLink f).ceil = s.ceil := rfl
@[simp] theorem State.updLink_image (s : State) (f : Link → Link) : (s.updLink f).image = s.image := rfl
@[simp] theorem State.updLink_arc (s : State) (f : Link → Link) : (s.updLink f).arc = s.arc := rfl
@[simp] theorem State.updLink_ctl (s : State) (f : Link → Link) : (s.updLink f).ctl = s.ctl := rfl
@[simp] theorem State.updLink_link (s : State) (f : Link → Link) :
    (s.updLink f).link = f s.link := rfl
@[simp] theorem State.updLink_stepped (s : State) (f : Link → Link) : (s.updLink f).stepped = s.stepped := rfl
@[simp] theorem State.updLink_port (s : State) (f : Link → Link) : (s.updLink f).port = s.port := rfl
@[simp] theorem State.updLink_pub (s : State) (f : Link → Link) : (s.updLink f).pub = s.pub := rfl
@[simp] theorem State.updLink_pending (s : State) (f : Link → Link) : (s.updLink f).pending = s.pending := rfl

/-! ## The updates of each block -/

@[simp] theorem submitAll_frame (ds : List Draft) (s : State) :
    (submitAll ds s).resetHeld = s.resetHeld ∧ (submitAll ds s).resetKind = s.resetKind ∧
    (submitAll ds s).straps = s.straps ∧ (submitAll ds s).ms = s.ms ∧
    (submitAll ds s).shadow = s.shadow ∧ (submitAll ds s).loader = s.loader ∧
    (submitAll ds s).checker = s.checker ∧ (submitAll ds s).meas = s.meas ∧
    (submitAll ds s).mis = s.mis ∧ (submitAll ds s).mods = s.mods ∧
    (submitAll ds s).ceil = s.ceil ∧ (submitAll ds s).image = s.image ∧
    (submitAll ds s).arc = s.arc ∧ (submitAll ds s).ctl = s.ctl ∧
    (submitAll ds s).link = s.link ∧ (submitAll ds s).stepped = s.stepped ∧
    (submitAll ds s).port = s.port ∧ (submitAll ds s).pending = s.pending := by
  refine ⟨rfl, rfl, rfl, rfl, rfl, rfl, rfl, rfl, rfl, rfl, rfl, rfl, rfl, rfl, rfl, rfl, rfl, rfl⟩

@[simp] theorem imageReact_frame (c : Ceilings) (s : State) :
    (imageReact c s).resetHeld = s.resetHeld ∧ (imageReact c s).resetKind = s.resetKind ∧
    (imageReact c s).straps = s.straps ∧ (imageReact c s).ms = s.ms ∧
    (imageReact c s).shadow = s.shadow ∧ (imageReact c s).loader = s.loader ∧
    (imageReact c s).checker = s.checker ∧ (imageReact c s).meas = s.meas ∧
    (imageReact c s).mis = s.mis ∧ (imageReact c s).mods = s.mods ∧
    (imageReact c s).ceil = s.ceil ∧ (imageReact c s).arc = s.arc ∧
    (imageReact c s).ctl = s.ctl ∧ (imageReact c s).link = s.link ∧
    (imageReact c s).stepped = s.stepped ∧ (imageReact c s).port = s.port ∧
    (imageReact c s).pub = s.pub ∧ (imageReact c s).pending = s.pending := by
  refine ⟨rfl, rfl, rfl, rfl, rfl, rfl, rfl, rfl, rfl, rfl, rfl, rfl, rfl, rfl, rfl, rfl, rfl, rfl⟩

@[simp] theorem recompute_frame (s : State) :
    (recompute s).resetHeld = s.resetHeld ∧ (recompute s).resetKind = s.resetKind ∧
    (recompute s).straps = s.straps ∧ (recompute s).ms = s.ms ∧
    (recompute s).shadow = s.shadow ∧ (recompute s).loader = s.loader ∧
    (recompute s).checker = s.checker ∧ (recompute s).meas = s.meas ∧
    (recompute s).mis = s.mis ∧ (recompute s).mods = s.mods ∧
    (recompute s).image = s.image ∧ (recompute s).arc = s.arc ∧
    (recompute s).ctl = s.ctl ∧ (recompute s).link = s.link ∧
    (recompute s).stepped = s.stepped ∧ (recompute s).port = s.port ∧
    (recompute s).pub = s.pub ∧ (recompute s).pending = s.pending := by
  refine ⟨rfl, rfl, rfl, rfl, rfl, rfl, rfl, rfl, rfl, rfl, rfl, rfl, rfl, rfl, rfl, rfl, rfl, rfl⟩

@[simp] theorem judgeUnproven_frame (s : State) :
    (judgeUnproven s).resetHeld = s.resetHeld ∧ (judgeUnproven s).resetKind = s.resetKind ∧
    (judgeUnproven s).straps = s.straps ∧ (judgeUnproven s).ms = s.ms ∧
    (judgeUnproven s).shadow = s.shadow ∧ (judgeUnproven s).loader = s.loader ∧
    (judgeUnproven s).checker = s.checker ∧ (judgeUnproven s).meas = s.meas ∧
    (judgeUnproven s).mis = s.mis ∧ (judgeUnproven s).mods = s.mods ∧
    (judgeUnproven s).image = s.image ∧ (judgeUnproven s).arc = s.arc ∧
    (judgeUnproven s).ctl = s.ctl ∧ (judgeUnproven s).link = s.link ∧
    (judgeUnproven s).stepped = s.stepped ∧ (judgeUnproven s).port = s.port ∧
    (judgeUnproven s).pub = s.pub ∧ (judgeUnproven s).pending = s.pending := by
  refine ⟨rfl, rfl, rfl, rfl, rfl, rfl, rfl, rfl, rfl, rfl, rfl, rfl, rfl, rfl, rfl, rfl, rfl, rfl⟩

@[simp] theorem enterState_frame (d : CtlState) (s : State) :
    (enterState d s).resetHeld = s.resetHeld ∧ (enterState d s).resetKind = s.resetKind ∧
    (enterState d s).straps = s.straps ∧ (enterState d s).ms = s.ms ∧
    (enterState d s).shadow = s.shadow ∧ (enterState d s).loader = s.loader ∧
    (enterState d s).checker = s.checker ∧ (enterState d s).meas = s.meas ∧
    (enterState d s).mis = s.mis ∧ (enterState d s).mods = s.mods ∧
    (enterState d s).image = s.image ∧ (enterState d s).link = s.link ∧
    (enterState d s).stepped = s.stepped ∧ (enterState d s).port = s.port ∧
    (enterState d s).pub = s.pub ∧ (enterState d s).pending = s.pending := by
  refine ⟨rfl, rfl, rfl, rfl, rfl, rfl, rfl, rfl, rfl, rfl, rfl, rfl, rfl, rfl, rfl, rfl⟩

@[simp] theorem setBlank_frame (t : Timer) (s : State) :
    (setBlank t s).resetHeld = s.resetHeld ∧ (setBlank t s).resetKind = s.resetKind ∧
    (setBlank t s).straps = s.straps ∧ (setBlank t s).ms = s.ms ∧
    (setBlank t s).shadow = s.shadow ∧ (setBlank t s).loader = s.loader ∧
    (setBlank t s).checker = s.checker ∧ (setBlank t s).meas = s.meas ∧
    (setBlank t s).mis = s.mis ∧ (setBlank t s).mods = s.mods ∧
    (setBlank t s).ceil = s.ceil ∧ (setBlank t s).image = s.image ∧
    (setBlank t s).arc = s.arc ∧ (setBlank t s).link = s.link ∧
    (setBlank t s).stepped = s.stepped ∧ (setBlank t s).port = s.port ∧
    (setBlank t s).pub = s.pub ∧ (setBlank t s).pending = s.pending := by
  refine ⟨rfl, rfl, rfl, rfl, rfl, rfl, rfl, rfl, rfl, rfl, rfl, rfl, rfl, rfl, rfl, rfl, rfl, rfl⟩

@[simp] theorem setHold_frame (t : Timer) (s : State) :
    (setHold t s).resetHeld = s.resetHeld ∧ (setHold t s).resetKind = s.resetKind ∧
    (setHold t s).straps = s.straps ∧ (setHold t s).ms = s.ms ∧
    (setHold t s).shadow = s.shadow ∧ (setHold t s).loader = s.loader ∧
    (setHold t s).checker = s.checker ∧ (setHold t s).meas = s.meas ∧
    (setHold t s).mis = s.mis ∧ (setHold t s).mods = s.mods ∧
    (setHold t s).ceil = s.ceil ∧ (setHold t s).image = s.image ∧
    (setHold t s).arc = s.arc ∧ (setHold t s).link = s.link ∧
    (setHold t s).stepped = s.stepped ∧ (setHold t s).port = s.port ∧
    (setHold t s).pub = s.pub ∧ (setHold t s).pending = s.pending := by
  refine ⟨rfl, rfl, rfl, rfl, rfl, rfl, rfl, rfl, rfl, rfl, rfl, rfl, rfl, rfl, rfl, rfl, rfl, rfl⟩

@[simp] theorem setCause_frame (m : Cause) (b : Bool) (s : State) :
    (setCause m b s).resetHeld = s.resetHeld ∧ (setCause m b s).resetKind = s.resetKind ∧
    (setCause m b s).straps = s.straps ∧ (setCause m b s).ms = s.ms ∧
    (setCause m b s).shadow = s.shadow ∧ (setCause m b s).loader = s.loader ∧
    (setCause m b s).checker = s.checker ∧ (setCause m b s).meas = s.meas ∧
    (setCause m b s).mis = s.mis ∧ (setCause m b s).mods = s.mods ∧
    (setCause m b s).ceil = s.ceil ∧ (setCause m b s).image = s.image ∧
    (setCause m b s).arc = s.arc ∧ (setCause m b s).link = s.link ∧
    (setCause m b s).stepped = s.stepped ∧ (setCause m b s).port = s.port ∧
    (setCause m b s).pub = s.pub ∧ (setCause m b s).pending = s.pending := by
  refine ⟨rfl, rfl, rfl, rfl, rfl, rfl, rfl, rfl, rfl, rfl, rfl, rfl, rfl, rfl, rfl, rfl, rfl, rfl⟩

@[simp] theorem setCommand_frame (n : Nat) (r : CmdResult) (s : State) :
    (setCommand n r s).resetHeld = s.resetHeld ∧ (setCommand n r s).resetKind = s.resetKind ∧
    (setCommand n r s).straps = s.straps ∧ (setCommand n r s).ms = s.ms ∧
    (setCommand n r s).shadow = s.shadow ∧ (setCommand n r s).loader = s.loader ∧
    (setCommand n r s).checker = s.checker ∧ (setCommand n r s).meas = s.meas ∧
    (setCommand n r s).mis = s.mis ∧ (setCommand n r s).mods = s.mods ∧
    (setCommand n r s).ceil = s.ceil ∧ (setCommand n r s).image = s.image ∧
    (setCommand n r s).arc = s.arc ∧ (setCommand n r s).link = s.link ∧
    (setCommand n r s).stepped = s.stepped ∧ (setCommand n r s).port = s.port ∧
    (setCommand n r s).pub = s.pub ∧ (setCommand n r s).pending = s.pending := by
  refine ⟨rfl, rfl, rfl, rfl, rfl, rfl, rfl, rfl, rfl, rfl, rfl, rfl, rfl, rfl, rfl, rfl, rfl, rfl⟩

@[simp] theorem trimInterruptions_frame (s : State) :
    (trimInterruptions s).resetHeld = s.resetHeld ∧ (trimInterruptions s).resetKind = s.resetKind ∧
    (trimInterruptions s).straps = s.straps ∧ (trimInterruptions s).ms = s.ms ∧
    (trimInterruptions s).shadow = s.shadow ∧ (trimInterruptions s).loader = s.loader ∧
    (trimInterruptions s).checker = s.checker ∧ (trimInterruptions s).meas = s.meas ∧
    (trimInterruptions s).mis = s.mis ∧ (trimInterruptions s).mods = s.mods ∧
    (trimInterruptions s).ceil = s.ceil ∧ (trimInterruptions s).image = s.image ∧
    (trimInterruptions s).arc = s.arc ∧ (trimInterruptions s).link = s.link ∧
    (trimInterruptions s).stepped = s.stepped ∧ (trimInterruptions s).port = s.port ∧
    (trimInterruptions s).pub = s.pub ∧ (trimInterruptions s).pending = s.pending := by
  refine ⟨rfl, rfl, rfl, rfl, rfl, rfl, rfl, rfl, rfl, rfl, rfl, rfl, rfl, rfl, rfl, rfl, rfl, rfl⟩

@[simp] theorem rampStep_frame (s : State) :
    (rampStep s).resetHeld = s.resetHeld ∧ (rampStep s).resetKind = s.resetKind ∧
    (rampStep s).straps = s.straps ∧ (rampStep s).ms = s.ms ∧
    (rampStep s).shadow = s.shadow ∧ (rampStep s).loader = s.loader ∧
    (rampStep s).checker = s.checker ∧ (rampStep s).meas = s.meas ∧
    (rampStep s).mis = s.mis ∧ (rampStep s).mods = s.mods ∧
    (rampStep s).image = s.image ∧ (rampStep s).arc = s.arc ∧
    (rampStep s).ctl = s.ctl ∧ (rampStep s).link = s.link ∧
    (rampStep s).stepped = s.stepped ∧ (rampStep s).port = s.port ∧
    (rampStep s).pub = s.pub ∧ (rampStep s).pending = s.pending := by
  refine ⟨rfl, rfl, rfl, rfl, rfl, rfl, rfl, rfl, rfl, rfl, rfl, rfl, rfl, rfl, rfl, rfl, rfl, rfl⟩

@[simp] theorem startRamp_frame (s : State) :
    (startRamp s).resetHeld = s.resetHeld ∧ (startRamp s).resetKind = s.resetKind ∧
    (startRamp s).straps = s.straps ∧ (startRamp s).ms = s.ms ∧
    (startRamp s).shadow = s.shadow ∧ (startRamp s).loader = s.loader ∧
    (startRamp s).checker = s.checker ∧ (startRamp s).meas = s.meas ∧
    (startRamp s).mis = s.mis ∧ (startRamp s).mods = s.mods ∧
    (startRamp s).image = s.image ∧ (startRamp s).arc = s.arc ∧
    (startRamp s).ctl = s.ctl ∧ (startRamp s).link = s.link ∧
    (startRamp s).stepped = s.stepped ∧ (startRamp s).port = s.port ∧
    (startRamp s).pub = s.pub ∧ (startRamp s).pending = s.pending := by
  refine ⟨rfl, rfl, rfl, rfl, rfl, rfl, rfl, rfl, rfl, rfl, rfl, rfl, rfl, rfl, rfl, rfl, rfl, rfl⟩

@[simp] theorem startModules_frame (s : State) :
    (startModules s).resetHeld = s.resetHeld ∧ (startModules s).resetKind = s.resetKind ∧
    (startModules s).straps = s.straps ∧ (startModules s).ms = s.ms ∧
    (startModules s).shadow = s.shadow ∧ (startModules s).loader = s.loader ∧
    (startModules s).checker = s.checker ∧ (startModules s).meas = s.meas ∧
    (startModules s).mis = s.mis ∧ (startModules s).image = s.image ∧
    (startModules s).arc = s.arc ∧ (startModules s).ctl = s.ctl ∧
    (startModules s).link = s.link ∧ (startModules s).stepped = s.stepped ∧
    (startModules s).port = s.port ∧ (startModules s).pub = s.pub ∧
    (startModules s).pending = s.pending := by
  refine ⟨rfl, rfl, rfl, rfl, rfl, rfl, rfl, rfl, rfl, rfl, rfl, rfl, rfl, rfl, rfl, rfl, rfl⟩

@[simp] theorem setChan_frame (c : Fin 25) (ch : Channel) (s : State) :
    (setChan c ch s).resetHeld = s.resetHeld ∧ (setChan c ch s).resetKind = s.resetKind ∧
    (setChan c ch s).straps = s.straps ∧ (setChan c ch s).ms = s.ms ∧
    (setChan c ch s).shadow = s.shadow ∧ (setChan c ch s).loader = s.loader ∧
    (setChan c ch s).checker = s.checker ∧ (setChan c ch s).mis = s.mis ∧
    (setChan c ch s).mods = s.mods ∧ (setChan c ch s).ceil = s.ceil ∧
    (setChan c ch s).image = s.image ∧ (setChan c ch s).arc = s.arc ∧
    (setChan c ch s).ctl = s.ctl ∧ (setChan c ch s).link = s.link ∧
    (setChan c ch s).stepped = s.stepped ∧ (setChan c ch s).port = s.port ∧
    (setChan c ch s).pub = s.pub ∧ (setChan c ch s).pending = s.pending := by
  refine ⟨rfl, rfl, rfl, rfl, rfl, rfl, rfl, rfl, rfl, rfl, rfl, rfl, rfl, rfl, rfl, rfl, rfl, rfl⟩

@[simp] theorem setPulses_frame (n : Nat) (s : State) :
    (setPulses n s).resetHeld = s.resetHeld ∧ (setPulses n s).resetKind = s.resetKind ∧
    (setPulses n s).straps = s.straps ∧ (setPulses n s).ms = s.ms ∧
    (setPulses n s).shadow = s.shadow ∧ (setPulses n s).loader = s.loader ∧
    (setPulses n s).checker = s.checker ∧ (setPulses n s).mis = s.mis ∧
    (setPulses n s).mods = s.mods ∧ (setPulses n s).ceil = s.ceil ∧
    (setPulses n s).image = s.image ∧ (setPulses n s).arc = s.arc ∧
    (setPulses n s).ctl = s.ctl ∧ (setPulses n s).link = s.link ∧
    (setPulses n s).stepped = s.stepped ∧ (setPulses n s).port = s.port ∧
    (setPulses n s).pub = s.pub ∧ (setPulses n s).pending = s.pending := by
  refine ⟨rfl, rfl, rfl, rfl, rfl, rfl, rfl, rfl, rfl, rfl, rfl, rfl, rfl, rfl, rfl, rfl, rfl, rfl⟩

@[simp] theorem startGate_frame (s : State) :
    (startGate s).resetHeld = s.resetHeld ∧ (startGate s).resetKind = s.resetKind ∧
    (startGate s).straps = s.straps ∧ (startGate s).ms = s.ms ∧
    (startGate s).shadow = s.shadow ∧ (startGate s).loader = s.loader ∧
    (startGate s).checker = s.checker ∧ (startGate s).mis = s.mis ∧
    (startGate s).mods = s.mods ∧ (startGate s).ceil = s.ceil ∧
    (startGate s).image = s.image ∧ (startGate s).arc = s.arc ∧
    (startGate s).ctl = s.ctl ∧ (startGate s).link = s.link ∧
    (startGate s).stepped = s.stepped ∧ (startGate s).port = s.port ∧
    (startGate s).pub = s.pub ∧ (startGate s).pending = s.pending := by
  refine ⟨rfl, rfl, rfl, rfl, rfl, rfl, rfl, rfl, rfl, rfl, rfl, rfl, rfl, rfl, rfl, rfl, rfl, rfl⟩

@[simp] theorem startMeasurement_frame (s : State) :
    (startMeasurement s).resetHeld = s.resetHeld ∧ (startMeasurement s).resetKind = s.resetKind ∧
    (startMeasurement s).straps = s.straps ∧ (startMeasurement s).ms = s.ms ∧
    (startMeasurement s).shadow = s.shadow ∧ (startMeasurement s).loader = s.loader ∧
    (startMeasurement s).checker = s.checker ∧ (startMeasurement s).mis = s.mis ∧
    (startMeasurement s).mods = s.mods ∧ (startMeasurement s).ceil = s.ceil ∧
    (startMeasurement s).image = s.image ∧ (startMeasurement s).arc = s.arc ∧
    (startMeasurement s).ctl = s.ctl ∧ (startMeasurement s).link = s.link ∧
    (startMeasurement s).stepped = s.stepped ∧ (startMeasurement s).port = s.port ∧
    (startMeasurement s).pub = s.pub ∧ (startMeasurement s).pending = s.pending := by
  simp [startMeasurement]

@[simp] theorem trimMismatch_frame (s : State) :
    (trimMismatch s).resetHeld = s.resetHeld ∧ (trimMismatch s).resetKind = s.resetKind ∧
    (trimMismatch s).straps = s.straps ∧ (trimMismatch s).ms = s.ms ∧
    (trimMismatch s).shadow = s.shadow ∧ (trimMismatch s).loader = s.loader ∧
    (trimMismatch s).checker = s.checker ∧ (trimMismatch s).meas = s.meas ∧
    (trimMismatch s).mods = s.mods ∧ (trimMismatch s).ceil = s.ceil ∧
    (trimMismatch s).image = s.image ∧ (trimMismatch s).arc = s.arc ∧
    (trimMismatch s).ctl = s.ctl ∧ (trimMismatch s).link = s.link ∧
    (trimMismatch s).stepped = s.stepped ∧ (trimMismatch s).port = s.port ∧
    (trimMismatch s).pub = s.pub ∧ (trimMismatch s).pending = s.pending := by
  refine ⟨rfl, rfl, rfl, rfl, rfl, rfl, rfl, rfl, rfl, rfl, rfl, rfl, rfl, rfl, rfl, rfl, rfl, rfl⟩

@[simp] theorem setSource_frame (i : Fin 5) (f : Source → Source) (s : State) :
    (setSource i f s).resetHeld = s.resetHeld ∧ (setSource i f s).resetKind = s.resetKind ∧
    (setSource i f s).straps = s.straps ∧ (setSource i f s).ms = s.ms ∧
    (setSource i f s).shadow = s.shadow ∧ (setSource i f s).loader = s.loader ∧
    (setSource i f s).checker = s.checker ∧ (setSource i f s).meas = s.meas ∧
    (setSource i f s).mis = s.mis ∧ (setSource i f s).mods = s.mods ∧
    (setSource i f s).ceil = s.ceil ∧ (setSource i f s).image = s.image ∧
    (setSource i f s).ctl = s.ctl ∧ (setSource i f s).link = s.link ∧
    (setSource i f s).stepped = s.stepped ∧ (setSource i f s).port = s.port ∧
    (setSource i f s).pub = s.pub ∧ (setSource i f s).pending = s.pending := by
  refine ⟨rfl, rfl, rfl, rfl, rfl, rfl, rfl, rfl, rfl, rfl, rfl, rfl, rfl, rfl, rfl, rfl, rfl, rfl⟩

@[simp] theorem setStimulus_frame (i : Fin 5) (b : Bool) (s : State) :
    (setStimulus i b s).resetHeld = s.resetHeld ∧ (setStimulus i b s).resetKind = s.resetKind ∧
    (setStimulus i b s).straps = s.straps ∧ (setStimulus i b s).ms = s.ms ∧
    (setStimulus i b s).shadow = s.shadow ∧ (setStimulus i b s).loader = s.loader ∧
    (setStimulus i b s).checker = s.checker ∧ (setStimulus i b s).meas = s.meas ∧
    (setStimulus i b s).mis = s.mis ∧ (setStimulus i b s).mods = s.mods ∧
    (setStimulus i b s).ceil = s.ceil ∧ (setStimulus i b s).image = s.image ∧
    (setStimulus i b s).ctl = s.ctl ∧ (setStimulus i b s).link = s.link ∧
    (setStimulus i b s).stepped = s.stepped ∧ (setStimulus i b s).port = s.port ∧
    (setStimulus i b s).pub = s.pub ∧ (setStimulus i b s).pending = s.pending := by
  refine ⟨rfl, rfl, rfl, rfl, rfl, rfl, rfl, rfl, rfl, rfl, rfl, rfl, rfl, rfl, rfl, rfl, rfl, rfl⟩

@[simp] theorem setProof_frame (p : Option ProofTest) (t : Timer) (s : State) :
    (setProof p t s).resetHeld = s.resetHeld ∧ (setProof p t s).resetKind = s.resetKind ∧
    (setProof p t s).straps = s.straps ∧ (setProof p t s).ms = s.ms ∧
    (setProof p t s).shadow = s.shadow ∧ (setProof p t s).loader = s.loader ∧
    (setProof p t s).checker = s.checker ∧ (setProof p t s).meas = s.meas ∧
    (setProof p t s).mis = s.mis ∧ (setProof p t s).mods = s.mods ∧
    (setProof p t s).ceil = s.ceil ∧ (setProof p t s).image = s.image ∧
    (setProof p t s).ctl = s.ctl ∧ (setProof p t s).link = s.link ∧
    (setProof p t s).stepped = s.stepped ∧ (setProof p t s).port = s.port ∧
    (setProof p t s).pub = s.pub ∧ (setProof p t s).pending = s.pending := by
  refine ⟨rfl, rfl, rfl, rfl, rfl, rfl, rfl, rfl, rfl, rfl, rfl, rfl, rfl, rfl, rfl, rfl, rfl, rfl⟩

@[simp] theorem setSourceState_frame (i : Fin 5) (st : SourceState) (s : State) :
    (setSourceState i st s).resetHeld = s.resetHeld ∧ (setSourceState i st s).resetKind = s.resetKind ∧
    (setSourceState i st s).straps = s.straps ∧ (setSourceState i st s).ms = s.ms ∧
    (setSourceState i st s).shadow = s.shadow ∧ (setSourceState i st s).loader = s.loader ∧
    (setSourceState i st s).checker = s.checker ∧ (setSourceState i st s).meas = s.meas ∧
    (setSourceState i st s).mis = s.mis ∧ (setSourceState i st s).mods = s.mods ∧
    (setSourceState i st s).image = s.image ∧ (setSourceState i st s).ctl = s.ctl ∧
    (setSourceState i st s).link = s.link ∧ (setSourceState i st s).stepped = s.stepped ∧
    (setSourceState i st s).port = s.port ∧ (setSourceState i st s).pub = s.pub ∧
    (setSourceState i st s).pending = s.pending := by
  simp [setSourceState]

@[simp] theorem startDebouncer_frame (i : Fin 5) (s : State) :
    (startDebouncer i s).resetHeld = s.resetHeld ∧ (startDebouncer i s).resetKind = s.resetKind ∧
    (startDebouncer i s).straps = s.straps ∧ (startDebouncer i s).ms = s.ms ∧
    (startDebouncer i s).shadow = s.shadow ∧ (startDebouncer i s).loader = s.loader ∧
    (startDebouncer i s).checker = s.checker ∧ (startDebouncer i s).meas = s.meas ∧
    (startDebouncer i s).mis = s.mis ∧ (startDebouncer i s).mods = s.mods ∧
    (startDebouncer i s).ceil = s.ceil ∧ (startDebouncer i s).image = s.image ∧
    (startDebouncer i s).ctl = s.ctl ∧ (startDebouncer i s).link = s.link ∧
    (startDebouncer i s).stepped = s.stepped ∧ (startDebouncer i s).port = s.port ∧
    (startDebouncer i s).pub = s.pub ∧ (startDebouncer i s).pending = s.pending := by
  refine ⟨rfl, rfl, rfl, rfl, rfl, rfl, rfl, rfl, rfl, rfl, rfl, rfl, rfl, rfl, rfl, rfl, rfl, rfl⟩

@[simp] theorem setSurge_frame (r : Nat) (s : State) :
    (setSurge r s).resetHeld = s.resetHeld ∧ (setSurge r s).resetKind = s.resetKind ∧
    (setSurge r s).straps = s.straps ∧ (setSurge r s).ms = s.ms ∧
    (setSurge r s).shadow = s.shadow ∧ (setSurge r s).loader = s.loader ∧
    (setSurge r s).checker = s.checker ∧ (setSurge r s).meas = s.meas ∧
    (setSurge r s).mis = s.mis ∧ (setSurge r s).mods = s.mods ∧
    (setSurge r s).ceil = s.ceil ∧ (setSurge r s).image = s.image ∧
    (setSurge r s).ctl = s.ctl ∧ (setSurge r s).link = s.link ∧
    (setSurge r s).stepped = s.stepped ∧ (setSurge r s).port = s.port ∧
    (setSurge r s).pub = s.pub ∧ (setSurge r s).pending = s.pending := by
  refine ⟨rfl, rfl, rfl, rfl, rfl, rfl, rfl, rfl, rfl, rfl, rfl, rfl, rfl, rfl, rfl, rfl, rfl, rfl⟩

@[simp] theorem startSweep_frame (s : State) :
    (startSweep s).resetHeld = s.resetHeld ∧ (startSweep s).resetKind = s.resetKind ∧
    (startSweep s).straps = s.straps ∧ (startSweep s).ms = s.ms ∧
    (startSweep s).shadow = s.shadow ∧ (startSweep s).loader = s.loader ∧
    (startSweep s).meas = s.meas ∧ (startSweep s).mis = s.mis ∧
    (startSweep s).mods = s.mods ∧ (startSweep s).ceil = s.ceil ∧
    (startSweep s).image = s.image ∧ (startSweep s).arc = s.arc ∧
    (startSweep s).ctl = s.ctl ∧ (startSweep s).link = s.link ∧
    (startSweep s).stepped = s.stepped ∧ (startSweep s).port = s.port ∧
    (startSweep s).pub = s.pub ∧ (startSweep s).pending = s.pending := by
  refine ⟨rfl, rfl, rfl, rfl, rfl, rfl, rfl, rfl, rfl, rfl, rfl, rfl, rfl, rfl, rfl, rfl, rfl, rfl⟩

@[simp] theorem startChecker_frame (s : State) :
    (startChecker s).resetHeld = s.resetHeld ∧ (startChecker s).resetKind = s.resetKind ∧
    (startChecker s).straps = s.straps ∧ (startChecker s).ms = s.ms ∧
    (startChecker s).shadow = s.shadow ∧ (startChecker s).loader = s.loader ∧
    (startChecker s).meas = s.meas ∧ (startChecker s).mis = s.mis ∧
    (startChecker s).mods = s.mods ∧ (startChecker s).ceil = s.ceil ∧
    (startChecker s).image = s.image ∧ (startChecker s).arc = s.arc ∧
    (startChecker s).ctl = s.ctl ∧ (startChecker s).link = s.link ∧
    (startChecker s).stepped = s.stepped ∧ (startChecker s).port = s.port ∧
    (startChecker s).pub = s.pub ∧ (startChecker s).pending = s.pending := by
  refine ⟨rfl, rfl, rfl, rfl, rfl, rfl, rfl, rfl, rfl, rfl, rfl, rfl, rfl, rfl, rfl, rfl, rfl, rfl⟩

@[simp] theorem startPublication_frame (s : State) :
    (startPublication s).resetHeld = s.resetHeld ∧ (startPublication s).resetKind = s.resetKind ∧
    (startPublication s).straps = s.straps ∧ (startPublication s).ms = s.ms ∧
    (startPublication s).shadow = s.shadow ∧ (startPublication s).loader = s.loader ∧
    (startPublication s).checker = s.checker ∧ (startPublication s).meas = s.meas ∧
    (startPublication s).mis = s.mis ∧ (startPublication s).mods = s.mods ∧
    (startPublication s).ceil = s.ceil ∧ (startPublication s).image = s.image ∧
    (startPublication s).arc = s.arc ∧ (startPublication s).ctl = s.ctl ∧
    (startPublication s).link = s.link ∧ (startPublication s).stepped = s.stepped ∧
    (startPublication s).port = s.port ∧ (startPublication s).pending = s.pending := by
  refine ⟨rfl, rfl, rfl, rfl, rfl, rfl, rfl, rfl, rfl, rfl, rfl, rfl, rfl, rfl, rfl, rfl, rfl, rfl⟩

@[simp] theorem reschedule_frame (i : Fin 9) (s : State) :
    (reschedule i s).resetHeld = s.resetHeld ∧ (reschedule i s).resetKind = s.resetKind ∧
    (reschedule i s).straps = s.straps ∧ (reschedule i s).ms = s.ms ∧
    (reschedule i s).shadow = s.shadow ∧ (reschedule i s).loader = s.loader ∧
    (reschedule i s).checker = s.checker ∧ (reschedule i s).meas = s.meas ∧
    (reschedule i s).mis = s.mis ∧ (reschedule i s).mods = s.mods ∧
    (reschedule i s).ceil = s.ceil ∧ (reschedule i s).arc = s.arc ∧
    (reschedule i s).ctl = s.ctl ∧ (reschedule i s).link = s.link ∧
    (reschedule i s).stepped = s.stepped ∧ (reschedule i s).port = s.port ∧
    (reschedule i s).pub = s.pub ∧ (reschedule i s).pending = s.pending := by
  refine ⟨rfl, rfl, rfl, rfl, rfl, rfl, rfl, rfl, rfl, rfl, rfl, rfl, rfl, rfl, rfl, rfl, rfl, rfl⟩

@[simp] theorem applyWrite_frame (i : Fin 9) (v : Word) (s : State) :
    (applyWrite i v s).resetHeld = s.resetHeld ∧ (applyWrite i v s).resetKind = s.resetKind ∧
    (applyWrite i v s).straps = s.straps ∧ (applyWrite i v s).ms = s.ms ∧
    (applyWrite i v s).shadow = s.shadow ∧ (applyWrite i v s).loader = s.loader ∧
    (applyWrite i v s).checker = s.checker ∧ (applyWrite i v s).meas = s.meas ∧
    (applyWrite i v s).mis = s.mis ∧ (applyWrite i v s).mods = s.mods ∧
    (applyWrite i v s).ceil = s.ceil ∧ (applyWrite i v s).arc = s.arc ∧
    (applyWrite i v s).ctl = s.ctl ∧ (applyWrite i v s).link = s.link ∧
    (applyWrite i v s).stepped = s.stepped ∧ (applyWrite i v s).port = s.port ∧
    (applyWrite i v s).pub = s.pub ∧ (applyWrite i v s).pending = s.pending := by
  refine ⟨rfl, rfl, rfl, rfl, rfl, rfl, rfl, rfl, rfl, rfl, rfl, rfl, rfl, rfl, rfl, rfl, rfl, rfl⟩

@[simp] theorem takeHead_frame (w : ImageWrite) (r : List ImageWrite) (s : State) :
    (takeHead w r s).resetHeld = s.resetHeld ∧ (takeHead w r s).resetKind = s.resetKind ∧
    (takeHead w r s).straps = s.straps ∧ (takeHead w r s).ms = s.ms ∧
    (takeHead w r s).shadow = s.shadow ∧ (takeHead w r s).loader = s.loader ∧
    (takeHead w r s).checker = s.checker ∧ (takeHead w r s).meas = s.meas ∧
    (takeHead w r s).mis = s.mis ∧ (takeHead w r s).mods = s.mods ∧
    (takeHead w r s).ceil = s.ceil ∧ (takeHead w r s).arc = s.arc ∧
    (takeHead w r s).ctl = s.ctl ∧ (takeHead w r s).link = s.link ∧
    (takeHead w r s).stepped = s.stepped ∧ (takeHead w r s).port = s.port ∧
    (takeHead w r s).pub = s.pub ∧ (takeHead w r s).pending = s.pending := by
  refine ⟨rfl, rfl, rfl, rfl, rfl, rfl, rfl, rfl, rfl, rfl, rfl, rfl, rfl, rfl, rfl, rfl, rfl, rfl⟩

@[simp] theorem takeLevel_frame (i : Fin 9) (w : Word) (s : State) :
    (takeLevel i w s).resetHeld = s.resetHeld ∧ (takeLevel i w s).resetKind = s.resetKind ∧
    (takeLevel i w s).straps = s.straps ∧ (takeLevel i w s).ms = s.ms ∧
    (takeLevel i w s).shadow = s.shadow ∧ (takeLevel i w s).loader = s.loader ∧
    (takeLevel i w s).checker = s.checker ∧ (takeLevel i w s).meas = s.meas ∧
    (takeLevel i w s).mis = s.mis ∧ (takeLevel i w s).mods = s.mods ∧
    (takeLevel i w s).ceil = s.ceil ∧ (takeLevel i w s).arc = s.arc ∧
    (takeLevel i w s).ctl = s.ctl ∧ (takeLevel i w s).link = s.link ∧
    (takeLevel i w s).stepped = s.stepped ∧ (takeLevel i w s).port = s.port ∧
    (takeLevel i w s).pub = s.pub ∧ (takeLevel i w s).pending = s.pending := by
  refine ⟨rfl, rfl, rfl, rfl, rfl, rfl, rfl, rfl, rfl, rfl, rfl, rfl, rfl, rfl, rfl, rfl, rfl, rfl⟩

@[simp] theorem createRecord_frame (s : State) (i : Fin 9) :
    (createRecord s i).resetHeld = s.resetHeld ∧ (createRecord s i).resetKind = s.resetKind ∧
    (createRecord s i).straps = s.straps ∧ (createRecord s i).ms = s.ms ∧
    (createRecord s i).shadow = s.shadow ∧ (createRecord s i).loader = s.loader ∧
    (createRecord s i).checker = s.checker ∧ (createRecord s i).meas = s.meas ∧
    (createRecord s i).mis = s.mis ∧ (createRecord s i).mods = s.mods ∧
    (createRecord s i).ceil = s.ceil ∧ (createRecord s i).arc = s.arc ∧
    (createRecord s i).ctl = s.ctl ∧ (createRecord s i).link = s.link ∧
    (createRecord s i).stepped = s.stepped ∧ (createRecord s i).pub = s.pub ∧
    (createRecord s i).pending = s.pending := by
  refine ⟨rfl, rfl, rfl, rfl, rfl, rfl, rfl, rfl, rfl, rfl, rfl, rfl, rfl, rfl, rfl, rfl, rfl⟩

@[simp] theorem removeRecord_frame (s : State) (i : Fin 9) :
    (removeRecord s i).resetHeld = s.resetHeld ∧ (removeRecord s i).resetKind = s.resetKind ∧
    (removeRecord s i).straps = s.straps ∧ (removeRecord s i).ms = s.ms ∧
    (removeRecord s i).shadow = s.shadow ∧ (removeRecord s i).loader = s.loader ∧
    (removeRecord s i).checker = s.checker ∧ (removeRecord s i).meas = s.meas ∧
    (removeRecord s i).mis = s.mis ∧ (removeRecord s i).mods = s.mods ∧
    (removeRecord s i).ceil = s.ceil ∧ (removeRecord s i).arc = s.arc ∧
    (removeRecord s i).ctl = s.ctl ∧ (removeRecord s i).link = s.link ∧
    (removeRecord s i).stepped = s.stepped ∧ (removeRecord s i).port = s.port ∧
    (removeRecord s i).pub = s.pub ∧ (removeRecord s i).pending = s.pending := by
  refine ⟨rfl, rfl, rfl, rfl, rfl, rfl, rfl, rfl, rfl, rfl, rfl, rfl, rfl, rfl, rfl, rfl, rfl, rfl⟩

/-! ## The event under way -/

@[simp] theorem Ev.of_st (s : State) : (Ev.of s).st = s := rfl
@[simp] theorem Ev.of_out (s : State) : (Ev.of s).out = [] := rfl
@[simp] theorem Ev.upd_st (e : Ev) (f : State → State) : (e.upd f).st = f e.st := rfl
@[simp] theorem Ev.upd_out (e : Ev) (f : State → State) : (e.upd f).out = e.out := rfl
@[simp] theorem Ev.draft_st (e : Ev) (d : Draft) : (e.draft d).st = e.st := rfl
@[simp] theorem Ev.draft_out (e : Ev) (d : Draft) : (e.draft d).out = e.out ++ [d] := rfl

end Sys2Proof.Machine
end

