-- ==== Sys2Proof/Laws/Ops.lean ====
section
/-! SUPPORT. What the shared operations of Machine/Ops.lean can do, said once for each: the submission of
records, the reaction of the drive image, the arbiter's own grants, and the conclusion of an event. -/

namespace Sys2Proof.Machine

open Sys2Proof Sys2Proof.Config

/-! ## Records -/

@[simp] theorem submitAll_nil (s : State) : submitAll [] s = s := rfl

/-- A submission appends at most one record, or drops records and counts them. -/
theorem submit_cases (w : Word) (r : Record) (p : Publication) :
    submit w r p = { p with fifo := p.fifo ++ [r] } ∨
    submit w r p =
      { p with fifo := [], lost := min 65535 (p.lost + (p.fifo ++ [r]).length) } ∨
    submit w r p = { p with lost := min 65535 (p.lost + 1) } := by
  unfold submit ringTest
  split
  · split
    · exact .inr (.inl rfl)
    · exact .inl rfl
  · exact .inr (.inr rfl)

/-- A ring test changes nothing, or empties the FIFO and counts what it held. -/
theorem ringTest_cases (w : Word) (p : Publication) :
    ringTest w p = p ∨
    (p.current = none ∧ ringFull w p = true ∧
      ringTest w p = { p with fifo := [], lost := min 65535 (p.lost + p.fifo.length) }) := by
  unfold ringTest
  split
  · rename_i h
    simp only [Bool.and_eq_true, Option.isNone_iff_eq_none] at h
    exact .inr ⟨h.1, h.2, rfl⟩
  · exact .inl rfl

/-! ## The drive image's reaction -/

theorem foldl_keep {α β : Type} (f : β → α → β) (l : List α) (b : β) (h : ∀ b' a, f b' a = b') :
    l.foldl f b = b := by
  induction l generalizing b with
  | nil => rfl
  | cons a l ih => simp [h, ih]

/-- Where no effective ceiling has changed the drive image does nothing. -/
theorem imageReact_same {c : Ceilings} {s : State}
    (h : ∀ i, governing c i = governing s.ceil i) : imageReact c s = s := by
  have : (List.finRange 9).foldl (fun im i =>
      if governing c i = governing s.ceil i then im else schedule s.ceil i im) s.image = s.image :=
    foldl_keep _ _ _ fun b i => by simp [h i]
  unfold imageReact
  rw [this]

@[simp] theorem imageReact_self (s : State) : imageReact s.ceil s = s := imageReact_same fun _ => rfl

theorem imageReact_of_ceil {c : Ceilings} {s : State} (h : s.ceil = c) : imageReact c s = s := by
  subst h; exact imageReact_self s

/-- The scheduling rule leaves the records alone. -/
@[simp] theorem schedule_recs (c : Ceilings) (i : Fin 9) (im : Image) :
    (schedule c i im).recs = im.recs := by
  unfold schedule
  split
  · rfl
  · split
    · split <;> rfl
    · rfl

/-- The drive image's reaction leaves the records alone: it moves only the queue. -/
@[simp] theorem imageReact_recs (c : Ceilings) (s : State) :
    (imageReact c s).image.recs = s.image.recs := by
  unfold imageReact
  simp only
  generalize List.finRange 9 = l
  induction l generalizing s with
  | nil => rfl
  | cons i l ih =>
    simp only [List.foldl_cons]
    have := ih { s with image := if governing c i = governing s.ceil i then s.image else schedule s.ceil i s.image }
    simp only at this
    rw [this]
    split <;> simp

theorem mem_dequeue {i : Fin 9} {e : ImageWrite} {q : List ImageWrite} :
    e ∈ dequeue i q ↔ e ∈ q ∧ e.entry ≠ i := by
  simp [dequeue]

/-! ## The arbiter's own grants -/

/-- Everything the arbiter's automatic grants can do (R133): nothing, or one access of the table load, of
a READ being served, or of a stepped word. -/
theorem settle_cases (s : State) :
    settle s = s ∨
    (s.resetHeld = false ∧ s.port.inFlight = none ∧
      ((∃ off rest, s.port.class1 = .tableRead off :: rest ∧
          settle s = (s.popClass1 rest).begin (.tableRead off) (s.tableAddr off) .read) ∨
       (∃ off v rest, s.port.class1 = .writeBack off v :: rest ∧
          settle s = (s.popClass1 rest).begin (.writeBack off) (s.tableAddr off) (.write v)) ∨
       (s.port.class1 = [] ∧ s.image.queue = [] ∧
         ((∃ t c, s.stepped = some t ∧ t.preRead = some c ∧
             settle s = s.begin .stepWrite t.addr (.write t.forward)) ∨
          (s.stepped = none ∧ s.readOffered = true ∧
             settle s = ({ s with link := { s.link with index := s.link.index + 1 } }).begin
               .hostRead (s.link.wordAddr s.link.index) .read))))) := by
  by_cases hp : s.portIdle = true
  · have hp' : s.resetHeld = false ∧ s.port.inFlight = none := by
      simpa [State.portIdle] using hp
    unfold settle
    simp only [hp, if_true]
    split
    · rename_i off rest h; exact .inr ⟨hp'.1, hp'.2, .inl ⟨off, rest, h, rfl⟩⟩
    · rename_i off v rest h; exact .inr ⟨hp'.1, hp'.2, .inr (.inl ⟨off, v, rest, h, rfl⟩)⟩
    · exact .inl rfl
    · rename_i h
      split
      · rename_i hq
        split
        · rename_i t ht
          split
          · rename_i hc
            obtain ⟨c, hc⟩ := Option.isSome_iff_exists.mp hc
            exact .inr ⟨hp'.1, hp'.2, .inr (.inr ⟨h, hq, .inl ⟨t, c, ht, hc, rfl⟩⟩)⟩
          · exact .inl rfl
        · rename_i ht
          split
          · rename_i hr
            exact .inr ⟨hp'.1, hp'.2, .inr (.inr ⟨h, hq, .inr ⟨ht, hr, rfl⟩⟩)⟩
          · exact .inl rfl
      · exact .inl rfl
  · unfold settle; simp [hp]

/-- A busy port takes no grant. -/
theorem settle_of_busy {s : State} (h : s.port.inFlight ≠ none) : settle s = s := by
  unfold settle State.portIdle
  cases hp : s.port.inFlight with
  | none => exact absurd hp h
  | some a => simp

/-- While the reset input is held there is no grant. -/
theorem settle_of_held {s : State} (h : s.resetHeld = true) : settle s = s := by
  unfold settle State.portIdle; simp [h]

/-- The arbiter's grants touch the port, and of the link the index only. -/
@[simp] theorem settle_frame (s : State) :
    (settle s).resetHeld = s.resetHeld ∧ (settle s).resetKind = s.resetKind ∧
    (settle s).straps = s.straps ∧ (settle s).ms = s.ms ∧ (settle s).shadow = s.shadow ∧
    (settle s).loader = s.loader ∧ (settle s).checker = s.checker ∧ (settle s).meas = s.meas ∧
    (settle s).mis = s.mis ∧ (settle s).mods = s.mods ∧ (settle s).ceil = s.ceil ∧
    (settle s).image = s.image ∧ (settle s).arc = s.arc ∧ (settle s).ctl = s.ctl ∧
    (settle s).stepped = s.stepped ∧ (settle s).pub = s.pub ∧ (settle s).pending = s.pending := by
  rcases settle_cases s with h | ⟨-, -, ⟨o, r, -, h⟩ | ⟨o, v, r, -, h⟩ |
      ⟨-, -, ⟨t, c, -, -, h⟩ | ⟨-, -, h⟩⟩⟩ <;> rw [h] <;> simp

@[simp] theorem settle_link_state (s : State) : (settle s).link.state = s.link.state := by
  rcases settle_cases s with h | ⟨-, -, ⟨o, r, -, h⟩ | ⟨o, v, r, -, h⟩ |
      ⟨-, -, ⟨t, c, -, -, h⟩ | ⟨-, -, h⟩⟩⟩ <;> rw [h] <;> simp

/-- The arbiter has nothing left to grant once it has granted. -/
@[simp] theorem settle_settle (s : State) : settle (settle s) = settle s := by
  rcases settle_cases s with h | ⟨-, -, ⟨o, r, -, h⟩ | ⟨o, v, r, -, h⟩ |
      ⟨-, -, ⟨t, c, -, -, h⟩ | ⟨-, -, h⟩⟩⟩ <;> rw [h]
  · exact h
  all_goals exact settle_of_busy (by simp)

/-! ## The conclusion of an event -/

/-- The state an event leaves before the arbiter's grants. -/
theorem conclude_eq (b : State) (e : Ev) :
    conclude b e = settle (submitAll e.out (imageReact b.ceil e.st)) := rfl

/-- An event that submits no record and changes no effective ceiling only lets the arbiter grant. -/
theorem conclude_quiet {b : State} {e : Ev} (ho : e.out = [])
    (hc : ∀ i, governing b.ceil i = governing e.st.ceil i) : conclude b e = settle e.st := by
  rw [conclude_eq, ho, imageReact_same hc, submitAll_nil]

@[simp] theorem conclude_frame (b : State) (e : Ev) :
    (conclude b e).resetHeld = e.st.resetHeld ∧ (conclude b e).resetKind = e.st.resetKind ∧
    (conclude b e).straps = e.st.straps ∧ (conclude b e).ms = e.st.ms ∧
    (conclude b e).shadow = e.st.shadow ∧ (conclude b e).loader = e.st.loader ∧
    (conclude b e).checker = e.st.checker ∧ (conclude b e).meas = e.st.meas ∧
    (conclude b e).mis = e.st.mis ∧ (conclude b e).mods = e.st.mods ∧
    (conclude b e).ceil = e.st.ceil ∧ (conclude b e).arc = e.st.arc ∧
    (conclude b e).ctl = e.st.ctl ∧ (conclude b e).stepped = e.st.stepped ∧
    (conclude b e).pending = e.st.pending := by
  simp [conclude_eq]

/-- `whenever` answers a next state, one of the two. -/
theorem whenever_eq (p : Bool) (s t : State) : whenever p s t = .next (if p then t else s) := rfl

@[simp] theorem whenever_true (s t : State) : whenever true s t = .next t := rfl
@[simp] theorem whenever_false (s t : State) : whenever false s t = .next s := rfl

/-! ## The handoff of a host word -/

/-- When the arbiter would hand off a host word: the port is free, classes 1 and 2 have no work, and a
WRITE being served has a word left, with no stepped word under way (R128, R133, R134). -/
theorem handoffWord_eq_some {s : State} {a w : Word} :
    s.handoffWord = some (a, w) ↔
      s.resetHeld = false ∧ s.port.inFlight = none ∧ s.port.class1 = [] ∧ s.image.queue = [] ∧
      s.link.state = .serving ∧ s.link.isWrite = true ∧ s.link.index ≤ s.link.count ∧
      s.stepped = none ∧ a = s.link.wordAddr s.link.index ∧ w = s.link.dataWord s.link.index := by
  unfold State.handoffWord State.wordOffered State.portIdle
  split
  · rename_i h
    simp only [Bool.and_eq_true, Bool.not_eq_true', Option.isNone_iff_eq_none, List.isEmpty_iff,
      beq_iff_eq, decide_eq_true_eq] at h
    simp only [Option.some.injEq, Prod.mk.injEq]
    constructor
    · rintro ⟨rfl, rfl⟩
      exact ⟨h.1.1.1.1, h.1.1.1.2, h.1.1.2, h.1.2, h.2.1.1.1, h.2.1.1.2, h.2.1.2, h.2.2, rfl, rfl⟩
    · rintro ⟨-, -, -, -, -, -, -, -, rfl, rfl⟩; exact ⟨rfl, rfl⟩
  · rename_i h
    simp only [reduceCtorEq, false_iff]
    rintro ⟨h1, h2, h3, h4, h5, h6, h7, h8, -, -⟩
    apply h
    simp [h1, h2, h3, h4, h5, h6, h7, h8]

/-- A row that is the handoff of a host word, when such a word would be handed off now. -/
theorem handoffOf_of {kind : State → Word → Word → Bool} {s : State} {a w : Word}
    (h : s.handoffWord = some (a, w)) (hk : kind s a w = true) :
    handoffOf kind s = .next (takeHostWord s a w) := by
  simp [handoffOf, h, hk]

/-- A forwarded word leaves the port busy, so the arbiter grants nothing more. -/
theorem takeHostWord_forward {s : State} {a w v : Word} {p : Purpose} {e : Ev}
    (h : treat s (s.target a) w = (e, .forward v p)) :
    takeHostWord s a w =
      submitAll e.out (imageReact s.ceil
        ((e.st.updLink (fun l => l.outcome (outcomeOf w v))).begin p a (.write v))) := by
  unfold takeHostWord
  rw [h, conclude_eq]
  simp only [dispose, Ev.upd_st, Ev.upd_out]
  rw [settle_of_busy]
  simp

/-- A HELD word makes no access; the link answers if it was the last. -/
theorem takeHostWord_held {s : State} {a w : Word} {e : Ev}
    (h : treat s (s.target a) w = (e, .held)) :
    takeHostWord s a w =
      settle (submitAll e.out (imageReact s.ceil
        (e.st.updLink (fun l => (l.outcome .held).disposed)))) := by
  unfold takeHostWord
  rw [h, conclude_eq]
  rfl

end Sys2Proof.Machine
end

