-- ==== Sys2Proof/Laws/Events.lean ====
section
/-! SUPPORT. What an event can do, in the terms of Safety.lean: its conclusion, a host word forwarded or
HELD, and the reactions of the controller and of the module supervisor. -/

namespace Sys2Proof.Machine

open Sys2Proof Sys2Proof.Config

/-! ## The conclusion -/

/-- What an event leaves before the arbiter's grants: the drive image has followed the ceilings. With
`conclude_eq`, `imageReact_frame` and `submitAll_frame` this and the next lemma say all that the
conclusion of an event can do. -/
theorem imageFollows_concluded {ds : List Draft} {b x : State} (hi : x.image = b.image) :
    imageFollows b (submitAll ds (imageReact b.ceil x)) := by
  unfold imageFollows; simp [submitAll, imageReact, hi]

/-- What an event leaves before the arbiter's grants: its records are submitted. -/
theorem submitted_concluded {ds es : List Draft} {c : Ceilings} {b x : State} (hp : x.pub = b.pub)
    (hd : ds = es) : submitted es b (submitAll ds (imageReact c x)) := by
  subst hd; unfold submitted; simp [submitAll, imageReact, hp, State.word]

/-! ## A host word -/

/-- A row that is the handoff of a host word, when such a word is forwarded: the blocks do their part `e`
at the handoff, the write of `v` is issued and the outcome noted. -/
theorem handoff_forward {kind : State → Word → Word → Bool} {s : State} {a w v : Word} {p : Purpose}
    {e : Ev} (h : s.handoffWord = some (a, w)) (hk : kind s a w = true)
    (ht : treat s (s.target a) w = (e, .forward v p)) :
    handoffOf kind s = .next (submitAll e.out (imageReact s.ceil
      ((e.st.updLink (fun l => l.outcome (outcomeOf w v))).begin p a (.write v)))) := by
  rw [handoffOf_of h hk, takeHostWord_forward ht]

/-- A forwarded configuration word whose blocks' part `x` bears on a raw ceiling (R44, R149). -/
theorem handoff_raw {kind : State → Word → Word → Bool} {s : State} {a w v : Word} {p : Purpose}
    {x : Ev} (h : s.handoffWord = some (a, w)) (hk : kind s a w = true)
    (ht : treat s (s.target a) w = ((x.upd recompute).upd startSweep, .forward v p))
    (hx : x.st = { s with shadow := x.st.shadow, meas := x.st.meas, mis := x.st.mis, mods := x.st.mods,
                          ceil := x.st.ceil, arc := x.st.arc, ctl := x.st.ctl })
    (hm : marksKept s x.st) :
    ∃ t, handoffOf kind s = .next t ∧ t.shadow = x.st.shadow ∧ sweepStarted s t ∧
      forwarded s t a w v p ∧ t.meas = x.st.meas ∧ t.mis = x.st.mis ∧ t.mods = x.st.mods ∧
      t.ctl = x.st.ctl ∧ t.arc = x.st.arc ∧ submitted x.out s t ∧
      ceilingsFollow x.st.ceil.eSys x.st.ceil.eMod t ∧ marksKept s t ∧ imageFollows s t ∧
      changesOnly [.shadow, .checker, .meas, .mis, .mods, .ceil, .image, .arc, .ctl, .port, .link,
        .pub] s t := by
  have hf : x.st.link = s.link ∧ x.st.port = s.port ∧ x.st.checker = s.checker ∧
      x.st.image = s.image ∧ x.st.pub = s.pub ∧ x.st.pending = s.pending ∧
      x.st.stepped = s.stepped ∧ x.st.resetHeld = s.resetHeld ∧ x.st.resetKind = s.resetKind ∧
      x.st.straps = s.straps ∧ x.st.ms = s.ms ∧ x.st.loader = s.loader := by
    rw [hx]; simp
  obtain ⟨f1, f2, f3, f4, f5, f6, f7, f8, f9, f10, f11, f12⟩ := hf
  obtain ⟨m1, m2, m3⟩ := hm
  refine ⟨_, handoff_forward h hk ht, by simp, ?_, ?_, by simp, by simp, by simp, by simp, by simp,
    ?_, ?_, ?_, ?_, ?_⟩
  · simp [sweepStarted, startSweep, offFirstCovered, f3]
  · exact ⟨by simp [f2], by simp [f1, Link.outcome, outcomeOf]⟩
  · exact submitted_concluded (by simp [f5]) (by simp)
  · refine ⟨?_, ?_, ?_, ?_⟩ <;> simp [recompute, rawSystem, rawModule, State.param, State.word]
  · simp [marksKept, recompute, m1, m2, m3]
  · exact imageFollows_concluded (by simp [f4])
  · refine ⟨by simp [f6], ?_⟩
    intro b hb
    cases b <;> simp at hb ⊢ <;> simp [sameBlock, f7, f8, f9, f10, f11, f12]

/-- The same for a HELD word: no access is made, and the arbiter has nothing to grant of its own accord. -/
theorem handoff_held {kind : State → Word → Word → Bool} {s : State} {a w : Word} {e : Ev}
    (h : s.handoffWord = some (a, w)) (hk : kind s a w = true)
    (ht : treat s (s.target a) w = (e, .held)) (ho : e.out = []) (hc : e.st.ceil = s.ceil)
    (hl : e.st.link = s.link) (hp : e.st.port = s.port) (hq : e.st.image = s.image)
    (hs : e.st.stepped = s.stepped) :
    handoffOf kind s = .next (e.st.updLink (fun l => (l.outcome .held).disposed)) := by
  obtain ⟨h1, h2, h3, h4, h5, h6, h7, h8, -, -⟩ := handoffWord_eq_some.mp h
  rw [handoffOf_of h hk, takeHostWord_held ht, ho, imageReact_of_ceil (by simp [hc]), submitAll_nil]
  congr 1
  have hw : (e.st.updLink (fun l => (l.outcome .held).disposed)).readOffered = false := by
    have : ((s.link.outcome .held).disposed).isWrite = true := by
      unfold Link.disposed; split <;> exact h6
    simp [State.readOffered, hl, this]
  unfold settle
  simp [hp, h3, hq, h4, hs, h8, hw]

/-- The outcome of a forwarded word, in the form `forwarded` gives it. -/
theorem outcomeOf_eq (w v : Word) :
    outcomeOf w v = if v = w then WordOutcome.written else WordOutcome.trimmed := rfl

/-- The port and the link after a forwarded word. -/
theorem forwarded_of {s t : State} {a w v : Word} {p : Purpose}
    (hp : t.port = { s.port with inFlight := some { purpose := p, addr := a, kind := .write v } })
    (hl : t.link = s.link.outcome (outcomeOf w v)) : forwarded s t a w v p := ⟨hp, hl⟩

/-- A word stored in the shadow. -/
theorem wordStored_store {s : State} {off : Nat} (v : Word) (h1 : 1 ≤ off) (h2 : off ≤ 0x121) :
    wordStored off v s (s.store off v) := by
  constructor
  · have : off - 1 < 289 := by omega
    simp [State.word, State.store, this]
  · intro k hk hne
    have : off - 1 ≠ k - 1 := by omega
    simp [State.word, State.store, this]

/-- What a store leaves of the stored values, as a read. -/
theorem word_store {s : State} {off k : Nat} (v : Word) (h1 : 1 ≤ off) (h2 : off ≤ 0x121) (hk : 1 ≤ k) :
    (s.store off v).word k = if k = off then v else s.word k := by
  obtain ⟨ha, hb⟩ := wordStored_store (s := s) v h1 h2
  split
  · rename_i h; subst h; exact ha
  · rename_i h; exact hb k hk h

/-- Stored values depend on the shadow alone. -/
theorem word_congr {s t : State} (h : t.shadow = s.shadow) (off : Nat) : t.word off = s.word off := by
  simp [State.word, h]

/-! ## The controller -/

@[simp] theorem transition_st (d : CtlState) (c : StateCause) (e : Ev) :
    (transition d c e).st = enterState d e.st := rfl

@[simp] theorem transition_out (d : CtlState) (c : StateCause) (e : Ev) :
    (transition d c e).out = e.out ++ [stateDraft e.st.ctl.state d c] := rfl

/-- The events of the controller touch the controller, E_sys and the mute settle timer at most. -/
def onlyController (s t : State) : Prop :=
  t = { s with ctl := t.ctl, ceil := { s.ceil with eSys := t.ceil.eSys },
               arc := { s.arc with settle := t.arc.settle } }

theorem onlyController_refl (s : State) : onlyController s s := rfl

/-- All that a change of a trip cause can do beyond the controller, E_sys and the mute settle timer:
nothing. -/
theorem causeChange_only (m : Cause) (before after : Bool) (e : Ev) :
    onlyController e.st (causeChange m before after e).st := by
  unfold causeChange
  split
  · rfl
  · split
    · unfold causeJoin
      simp only
      split
      · split
        · unfold mismatchInterruption addInterruption; rfl
        · rfl
      · split
        · unfold mismatchInterruption addInterruption; rfl
        · rfl
      · rfl
      · rfl
    · unfold causeLeave
      simp only
      split <;> rfl

/-- A flag that has not changed reports nothing. -/
@[simp] theorem causeChange_same (m : Cause) (b : Bool) (e : Ev) : causeChange m b b e = e := by
  simp [causeChange]

/-- A member leaves the set: in TRIPPED an emptied set starts the recovery hold (R101, R110). -/
theorem causeChange_leave (m : Cause) (e : Ev) :
    causeChange m true false e = causeLeave m e := rfl

/-- A member joins the set (R101, R106, R107, R110). -/
theorem causeChange_join (m : Cause) (e : Ev) :
    causeChange m false true e = causeJoin m e := rfl

/-- What an event under way has made of the controller, the mute settle timer and its records. -/
def Ev.reaction (e : Ev) : Reaction := ⟨e.st.ctl, e.st.arc.settle, e.out⟩

/-- The reaction to a member that joins, in the terms of Safety.lean: an event that met `s` and has left the
counter, the lockout count and, for MISMATCH, channel 16's filtered value as they were (R101, R106, R107, R110). -/
theorem causeJoin_reaction {s : State} {e : Ev} (m : Cause) (hms : e.st.ms = s.ms)
    (hf : m = .mismatch → (e.st.meas.chans[16]).filtered = (s.meas.chans[16]).filtered)
    (hl : e.st.param offLockoutCount = s.param offLockoutCount) :
    (causeJoin m e).reaction = e.reaction.member s m false true := by
  simp only [State.param, State.word, BitVec.ofNat_eq_ofNat] at hl
  by_cases hc : s.param offLockoutCount ≤ e.st.ctl.list.length + 1 <;>
  cases hs : e.st.ctl.state <;> cases m <;> simp at hf <;>
    simp only [State.param, State.word, BitVec.ofNat_eq_ofNat] at hc <;>
    simp [causeJoin, Reaction.member, Ev.reaction, Ev.upd, setCause, setHold, hs, mismatchInterruption,
      addInterruption, Ev.draft, transition, enterState, CtlState.running, stateDraft, State.forward,
      State.atLockout, State.param, State.word, hl, hms, hf, hc, memberCode, StateCause.code, CtlState.code,
      Origin.code, muteSettleMs]

/-- The reaction to a member that leaves (R101, R110). -/
theorem causeLeave_reaction {s : State} {e : Ev} (m : Cause)
    (hh : e.st.param offSysHold = s.param offSysHold) :
    (causeLeave m e).reaction = e.reaction.member s m true false := by
  simp only [State.param, State.word, BitVec.ofNat_eq_ofNat] at hh
  by_cases hc : e.st.ctl.state = .tripped ∧ (e.st.ctl.causes.put m false).isEmpty = true <;>
    simp [causeLeave, Reaction.member, Ev.reaction, Ev.upd, setCause, setHold, State.holdLength,
      State.param, State.word, hh, hc]

/-- All that a change of a trip cause does to the controller, the mute settle timer and the event's records. -/
theorem causeChange_reaction {s : State} {e : Ev} (m : Cause) (was now : Bool) (hms : e.st.ms = s.ms)
    (hf : m = .mismatch → (e.st.meas.chans[16]).filtered = (s.meas.chans[16]).filtered)
    (hl : e.st.param offLockoutCount = s.param offLockoutCount)
    (hh : e.st.param offSysHold = s.param offSysHold) :
    (causeChange m was now e).reaction = e.reaction.member s m was now := by
  cases was <;> cases now
  · simp [Reaction.member]
  · exact causeJoin_reaction m hms hf hl
  · exact causeLeave_reaction m hh
  · simp [Reaction.member]

end Sys2Proof.Machine
end

