-- ==== Sys2Proof/WellFormed.lean ====
section
/-! DEFINITION. Which terms of `Instr` are events the part's lines can carry. The operand types fix
most of it; the three checks below are the ranges a type of a whole block's index does not give. -/

namespace Sys2Proof

/-- A command names an event the part's connections can produce:
R1, the converter scans channels 0 to 23 only (channel 24 is the flow counter's);
section 5.1, PENDING_CHANGE speaks of the four arc lines (source 4's level is the comparator's, R82);
R82, the surge detector input reads 0 to 4096 ru from its zero level to its full scale. -/
def Instr.wellFormed : Instr → Bool
  | .sampleArrival c _ => c.val < 24
  | .pendingChange src _ => src.val < 4
  | .surgeComparatorChange r => r ≤ 4096
  | _ => true

end Sys2Proof
end

