-- ==== Sys2Proof/Tests/Slice0.lean ====
section
/-! SUPPORT. Tests. First the ill-formed terms `wellFormed` refuses, then the worked figures of the spec,
each with its rule, and then, for every statement of Certificates/Slice0/Obligations.lean that has
hypotheses, concrete values that meet them, clause by clause and at the edges of their ranges. -/

namespace Sys2Proof.Tests

open Sys2Proof Sys2Proof.Machine Sys2Proof.Config

set_option Elab.async false

/-! ## Well-formedness -/

theorem test_channel_24_has_no_sample : Instr.wellFormed (.sampleArrival 24 0) = false := by decide
theorem test_channel_23_has_samples : Instr.wellFormed (.sampleArrival 23 0) = true := by decide
theorem test_source_4_has_no_line : Instr.wellFormed (.pendingChange 4 true) = false := by decide
theorem test_surge_reads_at_most_4096 : Instr.wellFormed (.surgeComparatorChange 4097) = false := by
  decide
theorem test_surge_reads_4096 : Instr.wellFormed (.surgeComparatorChange 4096) = true := by decide

/-! ## The states the tests use -/

/-- The result of an event. -/
def after (c : Instr) (s : State) : State :=
  match exec c s with
  | .next t => t
  | _ => s

/-- A part whose load has completed with every stored value 0, table base 0x1000, nothing running. -/
def live : State :=
  { State.reset with resetHeld := false, straps := 1, loader := ⟨.complete, 0x122, 0⟩ }

/-- `s` serving a WRITE of one word `w` to `a`. -/
def hosted (s : State) (a w : Word) : State :=
  { s with link := ⟨.serving, [0x8000, a, w], [], none, 1, [], []⟩ }

/-- `s` with an access in flight. -/
def busy (s : State) (p : Purpose) (a : Word) (k : AccessKind) : State :=
  { s with port := ⟨some ⟨p, a, k⟩, []⟩ }

/-- `s` in a controller state. -/
def inState (st : CtlState) (s : State) : State :=
  { s with ctl := { s.ctl with state := st, inhibit := !st.running } }

/-- `s` with channel `c` enabled: gain 1, persistence 1, direction HIGH, trip level 3000. -/
def withChannel (c : Fin 25) (s : State) : State :=
  ((s.store (offChannel c.val 0) 0x0021).store (offChannel c.val 2) 4096).store (offChannel c.val 5) 3000

/-- `s` with arc source `i` enabled, both edges, no debounce, its accepted level low, and a change to high
awaiting its time. -/
def withEdge (i : Fin 5) (s : State) : State :=
  { s.store (offSource i.val) 0x0007 with
    arc := { s.arc with sources := s.arc.sources.set i ⟨.untested, false, some ⟨true, 1⟩⟩ } }

/-- `s` with a tracking record of entry `i` at address 0x3000. -/
def withRecord (i : Fin 9) (s : State) : State :=
  { s with image := { s.image with recs := s.image.recs.set i (some ⟨0x3000, 100, 90, .tracking, .none⟩) } }

/-- What a load makes of a table of zeros, in offset order from 0x001: the words up to 0x024, sixteen guard
entries, five sources and 25 channel records. -/
def loadedZeros : List Word :=
  [0, 0, 0xFF, 0, 0, 1, 1, 5, 1, 2, 1, 1, 1, 1, 1, 1, 0, 0, 0, 1, 1, 1] ++ List.replicate 14 0 ++
  (List.replicate 16 [0, 0, 1]).flatten ++ List.replicate 5 6 ++
  (List.replicate 25 (0x0020 :: List.replicate 7 0)).flatten

/-- The part at the last read of a load of zeros. -/
def lastRead : State :=
  { State.reset with
    resetHeld := false, straps := 1, loader := ⟨.running, 0x122, 0⟩
    shadow := ⟨loadedZeros.toArray, by decide +kernel⟩
    port := ⟨some ⟨.tableRead 0x121, 0x1121, .read⟩, []⟩ }

/-- The part at load completion of a table of zeros: eight modules ON, no channel, no source. -/
def site : State := after (.tableLoadReadCompletion 0) lastRead

/-! ## Figures of the spec -/

/-- R5: rounding to the nearest, a half upward, and saturation. -/
theorem test_conversion_figures :
    convert 1 2048 0 = 1 ∧ convert 1 2047 0 = 0 ∧ convert 4095 65535 0 = 32767 ∧
    convert 9 0 (-7) = -7 := by decide

/-- R9: the step is the distance over 2^k, rounded away from zero. -/
theorem test_filter_figures :
    filterStep 3 17 0 = 3 ∧ filterStep 3 (-17) 0 = -3 ∧ filterStep 0 500 (-500) = 500 ∧
    filterStep 7 1 0 = 1 := by decide

/-- R11, R12: a third of the way along a slope, and the two steps. -/
theorem test_factor_figures :
    factorHigh 1000 4000 2000 = 2730 ∧ factorLow 4000 1000 2000 = 1365 ∧
    factorHigh 5 5 5 = 0 ∧ factorHigh 5 5 4 = 4096 ∧ factorLow 5 5 5 = 0 ∧ factorLow 5 5 6 = 4096 := by
  decide

/-- R30: half the power returned, and an allowance of a tenth. -/
theorem test_mismatch_figures :
    reflectionRatio 2000 1000 = 2048 ∧ mismatchFactor 410 2048 = 820 ∧ reflectionRatio 1 (-5) = 0 ∧
    mismatchFactor 410 410 = 4096 ∧ reflectionRatio 1 2 = 4096 := by decide

/-- R41: F_bal of seven, six and four of eight modules. -/
theorem test_balance_figures :
    balanceFactor 7 8 = 3136 ∧ balanceFactor 6 8 = 2304 ∧ balanceFactor 4 8 = 1024 ∧
    balanceFactor 8 8 = 4096 ∧ balanceFactor 0 8 = 0 := by decide

/-- Section 11.6: the CRC-16 of generator 0x1021 from 0xFFFF of the bytes of "12345678" in word order is
0xA12B. -/
theorem test_crc_of_eight_digits : crc [0x3132, 0x3334, 0x3536, 0x3738] = 0xA12B := by
  decide +kernel

/-- Section 11.5: two bits an outcome, the first word in the low bits. -/
theorem test_outcome_word : outcomeWord [.written, .held, .trimmed] = 0x0018 := by decide +kernel

/-- R141: a step of 100 from 1000 toward 5000 and toward 0, and a value within. -/
theorem test_step_bounds :
    stepBound 100 1000 5000 = 1100 ∧ stepBound 100 1000 0 = 900 ∧ stepBound 100 1000 1050 = 1050 ∧
    stepBound 100 50 0 = 0 ∧ stepBound 100 65500 65535 = 65535 := by decide

/-- R153: the consumed index may come up to the write index and not past it, around the ring. -/
theorem test_consumed_index :
    consumedTaken 30 2 2 = true ∧ consumedTaken 30 3 2 = false ∧ consumedTaken 30 30 2 = true ∧
    consumedTaken 30 32 2 = false := by decide

/-- R65: of two entries with one address the lower is enabled. -/
theorem test_level_mask_refuses_shared_addresses :
    validLevelMask ((live.store 0x018 0x3000).store 0x019 0x3000) 0 0x0003 = 0x0001 := by
  decide +kernel

/-- R150, R151, R145: saturation and trimming at the load. -/
theorem test_load_values :
    loadValue 0x006 0 = 1 ∧ loadValue 0x008 4 = 5 ∧ loadValue 0x00A 9 = 8 ∧ loadValue 0x003 0x1200 = 0xFF ∧
    loadValue 0x055 0x0001 = 0x0007 ∧ loadValue 0x05A 0xFE01 = 0x0021 ∧ loadValue 0x027 0 = 1 := by
  decide +kernel

/-- R154, R155: the last read of the load leaves the part in STANDBY with its two first records. -/
theorem test_load_completion :
    site.ctl.state = .standby ∧ site.mods.nOn = 8 ∧ site.pub.fifo.length = 2 := by decide +kernel

/-- R113: a ramp expiry in RESTART with E_sys at C_raw takes the controller to RUN. -/
theorem test_ramp_reaches_run :
    (after .rampExpiry (inState .restart { live with ceil := { live.ceil with ramp := some 1 } })).ctl.state
      = .run := by decide +kernel

/-! ## Witnesses: states and operands that meet the hypotheses of each statement -/

theorem witness_TimePassesAndEveryCommandCompletes_held : State.reset.pending = [] ∧ State.reset.resetHeld = true := by decide

/-- An entry exactly at the window leaves first; one a millisecond short does not. -/
theorem witness_TimePassesAndEveryCommandCompletes_removal :
    ∀ e : Interruption, e = ⟨0, .surge, 0⟩ →
      ∀ s : State, s = { live.store offWindow 1 with ctl := { live.ctl with list := [e] } } →
        s.pending = [] ∧ s.resetHeld = false ∧
        s.param offWindow * 1000 ≤ ((1000 : Time) - e.time).toNat ∧
        ((999 : Time) - e.time).toNat < s.param offWindow * 1000 := by
  rintro e rfl s rfl; decide +kernel

theorem witness_EventsOutOfPlaceChangeNothing :
    State.reset.resetHeld = true ∧ live.resetHeld = false ∧ live.port.inFlight = none ∧
    live.handoffWord = none ∧ (hosted live 0x1000 1).handoffWord = some (0x1000, 1) ∧
    hasOwnRow (hosted live 0x1000 1) 0x1000 1 = true ∧ live.ceil.ramp = none ∧ live.meas.gate = none ∧
    live.arc.settle = none ∧ live.arc.proof = none ∧ live.ctl.blank = none ∧ live.ctl.hold = none ∧
    live.link.stall = none ∧ live.checker.timer = none ∧ live.checker.sweep = .idle ∧
    live.pub.timer = none ∧ (live.mods.mods[7]).hold = none ∧ (live.arc.sources[4]).change = none := by
  decide +kernel

theorem witness_TableLoadGoesWordByWord_release :
    State.reset.resetHeld = true ∧ State.reset.port = ⟨none, []⟩ := by decide

/-- The load at the read of `off`, its next read being `next`. -/
def loading (off next : Nat) : State :=
  busy { State.reset with resetHeld := false, loader := ⟨.running, next, 0x0003⟩ } (.tableRead off) 0 .read

theorem witness_TableLoadGoesWordByWord_reads :
    (loading 3 4).resetHeld = false ∧ (loading 3 4).loader.phase = .running ∧
    (loading 3 4).port = ⟨some ⟨.tableRead 3, 0, .read⟩, []⟩ ∧ loadValue 3 0 ≠ 0 ∧
    loadValue 3 0xFF = 0xFF ∧ (loading 3 4).loader.next ≤ 0x121 ∧
    (loading 0x120 0x121).loader.next ≤ 0x121 := by decide +kernel

theorem witness_TableLoadGoesWordByWord_mask :
    (loading 0x017 0x018).port = ⟨some ⟨.tableRead 0x017, 0, .read⟩, []⟩ ∧
    (loading 0x020 0x021).port = ⟨some ⟨.tableRead 0x020, 0, .read⟩, []⟩ ∧
    validLevelMask ((loading 0x020 0x021).store 0x020 0x3000) 0 0x0003 ≠ 0x0003 ∧
    validLevelMask ((loading 0x020 0x021).store 0x020 0x3000) 0 0 = 0 := by decide +kernel

theorem witness_TableLoadGoesWordByWord_writeBack :
    ∀ s : State, s = busy (loading 3 4) (.writeBack 3) 3 (.write 0xFF) →
      s.resetHeld = false ∧ s.loader.phase = .running ∧
      s.port = ⟨some ⟨.writeBack 3, 3, .write 0xFF⟩, []⟩ ∧ s.loader.next ≤ 0x121 := by
  rintro s rfl; decide +kernel

theorem lastRead_startsAtLoad : startsAtLoad lastRead := by
  refine ⟨fun h => absurd h (by decide), fun _ => ?_⟩
  refine ⟨rfl, rfl, rfl, rfl, rfl, rfl, rfl, rfl, rfl, rfl, ?_⟩
  decide

theorem witness_LoadCompletionStartsEveryBlock_read :
    startsAtLoad lastRead ∧ lastRead.resetHeld = false ∧ lastRead.loader.phase = .running ∧
    lastRead.loader.next = 0x122 ∧ lastRead.port = ⟨some ⟨.tableRead 0x121, 0x1121, .read⟩, []⟩ ∧
    loadValue 0x121 0 = 0 ∧ (lastRead.store 0x121 0).word offPresentMask &&& 0x00FF ≠ 0 :=
  ⟨lastRead_startsAtLoad, by decide +kernel⟩

theorem witness_LoadCompletionStartsEveryBlock_writeBack :
    ∀ s : State, s = busy lastRead (.writeBack 0x121) 0x1121 (.write 0) →
      startsAtLoad s ∧ s.resetHeld = false ∧ s.loader.phase = .running ∧ s.loader.next = 0x122 ∧
      s.port = ⟨some ⟨.writeBack 0x121, 0x1121, .write 0⟩, []⟩ ∧
      s.word offPresentMask &&& 0x00FF ≠ 0 := by
  rintro s rfl
  refine ⟨⟨fun h => absurd h (by decide), fun _ => ?_⟩, by decide +kernel⟩
  refine ⟨rfl, rfl, rfl, rfl, rfl, rfl, rfl, rfl, rfl, rfl, ?_⟩
  decide

theorem witness_SamplesOfEnabledChannelsAreEvaluated :
    State.reset.resetHeld = true ∧ State.reset.loaded = false ∧ (live.chanCfg 23).enable = false ∧
    (23 : Fin 25).val < 24 ∧ live.resetHeld = false ∧ live.loaded = true ∧
    ((withChannel 0 live).chanCfg 0).enable = true ∧
    ((withChannel 23 live).chanCfg 23).enable = true := by decide +kernel

/-- A channel's settings: persistence 2, trip level 3000, hysteresis 100, fold 2000 to 2800. -/
def settings (low : Bool) : ChanCfg :=
  { enable := true, low := low, shift := 3, pers := 2, offset := 0, gain := 4096, foldStart := 2000,
    foldStop := 2800, tripLevel := 3000, hyst := 100, faultFactor := 1000 }

theorem witness_RailSamplesAndSeeding :
    min (settings false).pers (Channel.reset.railCount + 1) ≠ (settings false).pers ∧
    min (settings false).pers ({ Channel.reset with railCount := 1 }.railCount + 1) = (settings false).pers ∧
    Channel.reset.inFault = false ∧ { Channel.reset with inFault := true }.inFault = true ∧
    { Channel.reset with unseeded := true }.unseeded = true ∧ Channel.reset.unseeded = false ∧
    ((4094 : Nat) ≠ 0 ∧ (4094 : Nat) ≠ 4095) ∧ ((1 : Nat) ≠ 0 ∧ (1 : Nat) ≠ 4095) := by
  decide

/-- The sum is in range, above it and below it. -/
theorem witness_ConversionRoundsAndSaturates :
    (((4095 * 4096 + 2048) / 4096 : Nat) : Int) + 28672 = 32767 ∧
    32767 < (((4095 * 4096 + 2048) / 4096 : Nat) : Int) + 28673 ∧
    (((0 * 4096 + 2048) / 4096 : Nat) : Int) + (-32768) = -32768 ∧
    (65535 : Nat) ≤ 65535 ∧ (4095 : Nat) ≤ 4095 := by decide

theorem witness_FilterMovesAndNeverOvershoots :
    Channel.reset.inFault = false ∧ Channel.reset.unseeded = false ∧ (-32768 : Int) < 32767 := by decide

theorem witness_FactorFoldsBack :
    (2000 : Int) < 2001 ∧ (2000 : Int) < 2002 ∧ (2001 : Int) < 2002 ∧ (2800 : Int) ≤ 2800 := by decide

theorem witness_TripJudgement :
    1 ≤ (settings true).pers ∧ -32768 ≤ (settings true).tripLevel ∧ (settings true).tripLevel ≤ 32767 ∧
    [(3000 : Int)].length < (settings false).pers ∧ ((1 : Nat) ≠ 0 ∧ (1 : Nat) ≠ 4095) := by decide

/-- Channel 18 as it stands, enabled, in a state of the controller, its trip flag as given. -/
def tripping (st : CtlState) (flag : Bool) : State :=
  let s := inState st (withChannel 18 live)
  { s with
    ctl := { s.ctl with causes := s.ctl.causes.put (.chan 2) flag }
    meas := { s.meas with chans := s.meas.chans.set 18 { Channel.reset with
      tripFlag := flag, state := if flag then .tripped else .normal } } }

/-- What a sample of channel 18 makes of its trip flag there. -/
def flagAfter (st : CtlState) (flag : Bool) (raw : Nat) : Bool :=
  (evalSample ((tripping st flag).chanCfg 18) true raw (tripping st flag).meas.chans[18]).tripFlag

theorem witness_SystemChannelTripsReachTheController :
    (tripping .run false).resetHeld = false ∧ (tripping .run false).loaded = true ∧
    ((tripping .run false).chanCfg 18).enable = true ∧ flagAfter .run false 3000 = true ∧
    flagAfter .run false 2999 = false ∧ flagAfter .tripped true 3001 = true ∧
    flagAfter .tripped true 10 = false ∧ flagAfter .standby false 3000 = true := by decide +kernel

/-- Channel 24 with a gate that expires on 3000 pulses. -/
def gated : State :=
  let s := withChannel 24 live
  { s with meas := { s.meas with gate := some 100, pulses := 3000 } }

/-- Channel 24 at a gate's expiry, and channel 17 beside a disabled channel 16, where MISMATCH stays clear. -/
theorem witness_SystemChannelTripsReachTheController_ends :
    gated.resetHeld = false ∧ gated.loaded = true ∧ (gated.chanCfg 24).enable = true ∧
    gated.meas.gate ≠ none ∧
    (evalSample (gated.chanCfg 24) false gated.meas.pulses gated.meas.chans[24]).tripFlag = true ∧
    ((withChannel 17 live).chanCfg 17).enable = true ∧ (withChannel 17 live).mis.flag = false ∧
    (after (.sampleArrival 17 3000) (withChannel 17 live)).mis.flag = false ∧
    ((after (.sampleArrival 17 3000) (withChannel 17 live)).meas.chans[17]).tripFlag = true := by
  decide +kernel

theorem witness_FlowPulsesAndGates :
    live.resetHeld = false ∧ live.loaded = true ∧ (10 : Nat) ≤ 10 ∧ (9 : Nat) < 10 ∧
    State.reset.loaded = false ∧ { live.meas with gate := some 100 }.gate ≠ none ∧
    (live.chanCfg 24).enable = false ∧ ((withChannel 24 live).chanCfg 24).enable = true := by
  decide +kernel

/-- An evaluation that judges, with channel 17 at `pr` of a forward 2000. -/
def judging (pr : Int) : MismatchInput :=
  { enabled16 := true, enabled17 := true, ch16 := { Channel.reset with filtered := 2000 },
    ch17 := { Channel.reset with filtered := pr }, faultFactor17 := 1000, pfMin := 2000, ra := 410,
    qTrip := 4, pm := 2 }

theorem witness_MismatchRatioAndFactor :
    (judging 1).ch16.inFault = false ∧ (judging 1).ch17.unseeded = false ∧ 1 ≤ (judging 1).pfMin ∧
    ((judging 1).pfMin : Int) ≤ (judging 1).ch16.filtered ∧ (judging 32767).ch17.filtered ≤ 32767 ∧
    (evalMismatch (judging (-1)) Mismatch.reset).q = 0 ∧
    (evalMismatch (judging 1) Mismatch.reset).q ≠ 0 := by decide

/-- Disabled, in FAULT, unseeded or under pf_min; the release level of q_trip 4 is 3, and 2 of 2000 make a
ratio of 4; one evaluation is fewer than Pm = 2. -/
theorem witness_MismatchJudgement :
    { judging 1 with enabled16 := false }.enabled16 = false ∧
    { judging 1 with ch17 := { Channel.reset with inFault := true } }.ch17.inFault = true ∧
    { judging 1 with ch16 := { Channel.reset with filtered := 1999 } }.ch16.filtered < 2000 ∧
    reflectionRatio 2000 1 ≤ 3 * 4 / 4 ∧ 3 * 4 / 4 < reflectionRatio 2000 2 ∧
    { Mismatch.reset with flag := true }.flag = true ∧ Mismatch.reset.flag = false ∧
    [judging 2].length < 2 ∧ (judging 2).pm = 2 := by decide

/-- Channels 16 and 17 running in a controller state, q_trip 2048 with Pm 1, forward 2000. -/
def reflecting (st : CtlState) : State :=
  let s := inState st (withChannel 17 (withChannel 16
    ((((live.store offPfMin 1).store offRa 410).store offQTrip 2048).store offPm 1)))
  let forward : Channel := { Channel.reset with filtered := 2000, state := .normal }
  let reflected : Channel := { Channel.reset with state := .normal }
  { s with meas := { s.meas with chans := (s.meas.chans.set 16 forward).set 17 reflected } }

/-- A sample of 1000 at channel 17 is half the forward power: MISMATCH sets, and channel 17 itself neither
trips nor enters FAULT. -/
theorem witness_Channel17ArrivalsEvaluateMismatch :
    (reflecting .run).resetHeld = false ∧ (reflecting .run).loaded = true ∧
    ((reflecting .run).chanCfg 17).enable = true ∧ (reflecting .run).mis.flag = false ∧
    (after (.sampleArrival 17 1000) (reflecting .run)).mis.flag = true ∧
    (after (.sampleArrival 17 1000) (reflecting .tripped)).mis.flag = true ∧
    (evalSample ((reflecting .run).chanCfg 17) true 1000 (reflecting .run).meas.chans[17]).tripFlag =
      false := by decide +kernel

/-- With MISMATCH set, a sample of 10 at channel 17 clears it, and leaves the trip cause set empty. -/
theorem witness_Channel17ArrivalsEvaluateMismatch_leaving :
    ∀ s : State, s = { reflecting .tripped with
        mis := ⟨2048, 820, 1, true⟩
        ctl := { (reflecting .tripped).ctl with causes := CauseSet.empty.put .mismatch true } } →
      s.resetHeld = false ∧ s.loaded = true ∧ (s.chanCfg 17).enable = true ∧ s.mis.flag = true ∧
      (after (.sampleArrival 17 10) s).mis.flag = false ∧ s.ctl.state = .tripped ∧
      (s.ctl.causes.put .mismatch false).isEmpty = true ∧
      (evalSample (s.chanCfg 17) true 10 s.meas.chans[17]).tripFlag = false := by
  rintro s rfl; decide +kernel

/-- Module 7 in a state, channel 15 enabled with its trip flag as given, trip level 3000. -/
def moduleIn (st : ModState) (flag : Bool) : State :=
  let s := withChannel 15 live
  { s with
    mods := recount { s.mods with mods := s.mods.mods.set 7 ⟨st, if st = .recovering then some 100 else none⟩ }
    meas := { s.meas with chans := s.meas.chans.set 15 { Channel.reset with tripFlag := flag } } }

/-- What a sample of channel 15 makes of its trip flag there. -/
def moduleFlagAfter (st : ModState) (flag : Bool) (raw : Nat) : Bool :=
  (evalSample ((moduleIn st flag).chanCfg 15) true raw (moduleIn st flag).meas.chans[15]).tripFlag

theorem witness_ModuleTripConditions :
    (15 : Fin 25).val = 8 + (7 : Fin 8).val ∧ (7 : Fin 25).val = (7 : Fin 8).val ∧
    (moduleIn .on false).loaded = true ∧ ((moduleIn .on false).chanCfg 15).enable = true ∧
    moduleFlagAfter .on false 3000 = true ∧ moduleFlagAfter .recovering false 3000 = true ∧
    moduleFlagAfter .off true 10 = false ∧ ((moduleIn .off true).meas.chans[7]).tripFlag = false ∧
    moduleFlagAfter .off false 3000 = true ∧ moduleFlagAfter .on false 10 = false := by decide +kernel

/-- In RUN, the last module's leaving ON sets MODULES. -/
theorem witness_ModuleTripConditions_last :
    ∀ s : State, s = inState .run (moduleIn .on false) →
      s.ctl.state = .run ∧ s.mods.flag = false ∧ (after (.sampleArrival 15 3000) s).mods.flag = true ∧
      (after (.sampleArrival 15 10) s).mods.flag = false := by
  rintro s rfl; decide +kernel

theorem witness_RecoveryHoldExpiryTurnsTheModuleOn :
    (moduleIn .recovering false).resetHeld = false ∧
    ((moduleIn .recovering false).mods.mods[7]).state = .recovering ∧
    ((moduleIn .recovering false).mods.mods[7]).hold ≠ none ∧
    (moduleIn .recovering false).mods.flag = true ∧ (moduleIn .on false).mods.flag = false := by
  decide +kernel

theorem witness_BalanceFactorAndRawCeilings :
    1 ≤ (recount (moduleIn .on false).mods).nPresent ∧
    ((moduleIn .on false).mods.mods[7]).state = .on ∧ ((moduleIn .off false).mods.mods[7]).state ≠ .on := by
  decide +kernel

/-- In RESTART with C_raw 100 and steps of 60: one expiry short of it, and the one that reaches it. -/
def ramping (e : Nat) : State :=
  let s := inState .restart (live.store offRampStep 60)
  { s with ceil := { s.ceil with ramp := some 1, cRaw := 100, eSys := e } }

theorem witness_RampExpiryRaisesTheCeilings :
    (ramping 39).resetHeld = false ∧ (ramping 39).ceil.ramp ≠ none ∧ (ramping 39).ctl.state = .restart ∧
    min ((ramping 39).ceil.eSys + 60) 100 ≠ (ramping 39).ceil.cRaw ∧
    min ((ramping 40).ceil.eSys + 60) 100 = (ramping 40).ceil.cRaw ∧
    (inState .standby (ramping 0)).ctl.state.running = false ∧
    (1 : Nat) ≤ 4096 ∧ (0 : Nat) ≤ 4096 := by decide +kernel

/-- A tracking record whose target is its applied level, one whose is not, and one in CAPTURING. -/
theorem witness_SchedulingRule :
    ((withRecord 8 live).image.recs[8]) = some ⟨0x3000, 100, 90, .tracking, .none⟩ ∧
    targetOf { live.ceil with eMod := Vector.replicate 8 90 } 8 ⟨0x3000, 100, 90, .tracking, .none⟩ = 90 ∧
    targetOf live.ceil 8 ⟨0x3000, 100, 90, .tracking, .none⟩ ≠ 90 ∧
    (newRecord 5).capture = .capturing ∧ (live.image.recs[0]) = none ∧
    ((withRecord 8 live).image.queue.map ImageWrite.entry).Nodup ∧
    governing { live.ceil with eSys := 1 } 0 ≠ governing live.ceil 0 ∧
    governing { live.ceil with eSys := 1 } 8 = governing live.ceil 8 := by decide +kernel

/-- A capture that returns the target, one that does not, and one above 4096. -/
theorem witness_CaptureSeedsTheRecord :
    (busy (withRecord 0 live) (.capture 0) 0x3000 .read).port.inFlight =
      some ⟨.capture 0, 0x3000, .read⟩ ∧
    (busy (withRecord 0 live) (.capture 0) 0x3000 .read).image.recs[0] =
      some ⟨0x3000, 100, 90, .tracking, .none⟩ ∧
    targetOf live.ceil 0 ⟨0x3000, 0, 0, .tracking, .none⟩ = 0 ∧
    targetOf live.ceil 0 ⟨0x3000, 5, 5, .tracking, .none⟩ ≠ 5 ∧ 4096 < (4097 : Word).toNat := by
  decide +kernel

theorem witness_LevelWritesComplete :
    (busy (withRecord 0 live) (.image 0) 0x3000 (.write 0)).port.inFlight =
      some ⟨.image 0, 0x3000, .write 0⟩ ∧
    (busy (withRecord 0 live) (.hostLevel 0) 0x3000 (.write 7)).port.inFlight =
      some ⟨.hostLevel 0, 0x3000, .write 7⟩ ∧
    targetOf live.ceil 0 ⟨0x3000, 100, 0, .tracking, .none⟩ = 0 ∧
    targetOf live.ceil 0 ⟨0x3000, 100, 7, .tracking, .none⟩ ≠ 7 := by decide +kernel

theorem live_rfSafe : rfSafe live := by
  refine ⟨?_, ?_, ?_, ?_, ?_⟩ <;> decide +kernel

theorem live_ceilingsRight : ceilingsRight live := by
  refine ⟨?_, ?_, ?_, ?_, ?_⟩ <;> decide +kernel

/-- The host's word at the limit of a level and above it, in a muted state, for the system's level word and
for that of a module that is not ON. -/
theorem witness_HostLevelWordIsClamped :
    ∀ s : State, s = hosted (withRecord 0 live) 0x3000 4097 →
      s.handoffWord = some (0x3000, 4097) ∧ s.target 0x3000 = .level 0 ∧
      s.image.recs[0] = some ⟨0x3000, 100, 90, .tracking, .none⟩ ∧ 4096 < (4097 : Word).toNat ∧
      (hosted (withRecord 1 live) 0x3000 4096).target 0x3000 = .level 1 ∧
      s.ctl.state.running = false ∧ (s.mods.mods[0]).state ≠ .on := by
  rintro s rfl; decide +kernel

theorem witness_HostLevelWordIsClamped_muted :
    rfSafe (hosted (withRecord 0 live) 0x3000 4097) ∧
    ceilingsRight (hosted (withRecord 1 live) 0x3000 4096) := ⟨live_rfSafe, live_ceilingsRight⟩

/-- Masks that keep, enable and disable entries, and a handoff of one. -/
theorem witness_LevelEnableMaskWrites :
    ∀ s : State, s = hosted (live.store offLevelMask 0x0001) 0x1017 0x0102 →
      s.handoffWord = some (0x1017, 0x0102) ∧ s.target 0x1017 = .levelMask ∧
      bit 0x0102 0 = false ∧ bit 0x0102 8 = true ∧ bit (s.word offLevelMask) 8 = false ∧
      bit (s.word offLevelMask) 0 = true ∧ (0x01FF : Word) &&& 0x01FF = 0x01FF := by
  rintro s rfl; decide +kernel

/-- Source 3 enabled with its line low, with a debounce of 1 µs and of 0. -/
def watching (w : Word) (change : Option Pending) : State :=
  { live.store (offSource 3) w with
    arc := { live.arc with sources := live.arc.sources.set 3 ⟨.untested, false, change⟩ } }

theorem witness_LineChangesBeginAndCancel :
    ({ (watching 0x000F none) with arc := { (watching 0x000F none).arc with
        lines := (watching 0x000F none).arc.lines.setIfInBounds 3 true } } : State).inputLevel 3 = true ∧
    (3 : Fin 5).val < 4 ∧ State.reset.resetHeld = true ∧ live.resetHeld = false ∧
    (live.arc.sources[3]).state = .disabled ∧
    ((watching 0x000F none).arc.sources[3]).accepted = false ∧
    ((watching 0x000F none).arc.sources[3]).change = none ∧
    ((watching 0x000F (some ⟨true, 1⟩)).arc.sources[3]).change ≠ none ∧
    srcDebounce ((watching 0x000F none).sourceWord 3) = 1 ∧
    srcDebounce ((watching 0x0007 none).sourceWord 3) = 0 := by decide +kernel

/-- Sources 3 and 4 (the surge detector) with a change awaiting its time, in RUN and in RESTART, with an
interruption count below the lockout count and at it. -/
theorem witness_ArcEdgeInterruptsRF :
    ∀ s : State, s = inState .run (withEdge 4 (live.store offLockoutCount 2)) →
      s.resetHeld = false ∧ (s.arc.sources[4]).state ≠ .disabled ∧
      (s.arc.sources[4]).change = some ⟨true, 1⟩ ∧ s.arc.proof = none ∧ s.ctl.state = .run ∧
      (inState .restart (withEdge 3 live)).ctl.state = .restart ∧
      srcPolarity ((withEdge 3 live).sourceWord 3) = .both ∧
      ¬s.param offLockoutCount ≤ 1 ∧ s.param offLockoutCount ≤ 2 := by
  rintro s rfl; decide +kernel

/-- Edges with RF off: ignored in BLANK and while the mute settle timer runs, the PASS of a proof, and a
source turned SUSPECT; and a transition that is no edge. -/
theorem witness_ArcEdgesWithRFOff :
    ∀ s : State, s = inState .standby (withEdge 3 live) →
      s.resetHeld = false ∧ (s.arc.sources[3]).state = .untested ∧
      (s.arc.sources[3]).change = some ⟨true, 1⟩ ∧ s.arc.settle = none ∧ s.arc.proof = none ∧
      s.ctl.state = .standby ∧ (inState .blank s).ctl.state = .blank ∧
      { s.arc with settle := some 50 }.settle ≠ none ∧
      { s.arc with proof := some ⟨3, .waiting⟩ }.proof = some ⟨3, .waiting⟩ ∧
      { s.arc with proof := some ⟨3, .passed⟩ }.proof = some ⟨3, .passed⟩ ∧
      srcPolarity ((s.store (offSource 3) 0x0005).sourceWord 3) = .falling := by
  rintro s rfl; decide +kernel

theorem witness_ProofTimerEndsTheProof :
    ∀ s : State, s = { live with arc := { live.arc with proof := some ⟨4, .waiting⟩, proofTimer := some 9 } } →
      s.resetHeld = false ∧ s.arc.proof = some ⟨4, .waiting⟩ ∧ s.arc.proofTimer ≠ none ∧
      ({ s.arc with proof := some ⟨4, .passed⟩ } : Arc).proof = some ⟨4, .passed⟩ := by
  rintro s rfl; decide +kernel

/-- Enabling, disabling and changing source 4, with and without a proof on it. -/
theorem witness_SourceWordWrites :
    (hosted live 0x1059 0x0001).handoffWord = some (0x1059, 0x0001) ∧
    (hosted live 0x1059 0x0001).target 0x1059 = .source 4 ∧ bit (live.sourceWord 4) 0 = false ∧
    bit ((withEdge 4 live).sourceWord 4) 0 = true ∧ bit 0x0000 0 = false ∧
    (hosted (withEdge 4 live) 0x1059 0x000F).target 0x1059 = .source 4 ∧
    srcDebounce ((withEdge 4 live).sourceWord 4) ≠ srcDebounce 0x000F ∧ live.arc.proof = none := by
  decide +kernel

theorem witness_TimerExpiries :
    live.resetHeld = false ∧ { live.arc with settle := some 50 }.settle ≠ none ∧
    { live.checker with timer := some 1000 }.timer ≠ none ∧ { live.pub with timer := some 100 }.timer ≠ none ∧
    (live.store offWindow 1).param offWindow * 1000 ≤ ((1000 : Time) - 0).toNat ∧
    (inState .blank live).ctl.state = .blank ∧ { live.ctl with blank := some 5 }.blank ≠ none ∧
    (inState .tripped live).ctl.state = .tripped ∧ { live.ctl with hold := some 5 }.hold ≠ none ∧
    live.ctl.causes.isEmpty = true ∧ (live.ctl.causes.put .mismatch true).isEmpty = false := by
  decide +kernel

/-- Each command in a state that takes it. -/
theorem witness_ResumeStandbyAndRelease :
    (hosted (inState .standby live) 0x1000 1).handoffWord = some (0x1000, 1) ∧
    (hosted live 0x1000 1).target 0x1000 = .command ∧ field 1 0 8 = 1 ∧ field 2 0 8 = 2 ∧
    field 3 0 8 = 3 ∧ (inState .run live).ctl.state = .run ∧ (inState .lockout live).ctl.state = .lockout := by
  decide +kernel

/-- PROOF of source 4 and of source 7, NONE, and the unknown codes at both ends. -/
theorem witness_ProofAndTheOtherCommands :
    (hosted live 0x1000 0x0404).handoffWord = some (0x1000, 0x0404) ∧ field 0x0404 0 8 = 4 ∧
    field 0x0404 8 3 = 4 ∧ field 0x0704 8 3 = 7 ∧ field 0x0100 0 8 = 0 ∧ 5 ≤ field 0x0005 0 8 ∧
    5 ≤ field 0x00FF 0 8 ∧ (withEdge 4 (inState .standby live)).ctl.state = .standby ∧
    ((withEdge 4 live).arc.sources[4]).state ≠ .disabled ∧ live.arc.proof = none := by decide +kernel

/-- A READ's header awaiting its address word, a WRITE awaiting its check word, and a link in the other
states. -/
theorem witness_LinkWordsBuildARequest :
    live.link.state = .idle ∧ live.resetHeld = false ∧
    ({ Link.reset with state := .receiving, buf := [0x0000] } : Link).buf.length + 1 <
      ({ Link.reset with state := .receiving, buf := [0x0000] } : Link).checkPosition ∧
    ({ Link.reset with state := .receiving, buf := [0x800F] } : Link).checkPosition = 19 ∧
    ({ Link.reset with state := .receiving, stall := some 1 } : Link).stall ≠ none ∧
    ({ Link.reset with state := .answering } : Link).state = .answering := by decide +kernel

/-- A frame of one word at the top of memory, its check right and wrong, and one that runs off the top. -/
theorem witness_FramesAreTestedInOrder :
    ∀ l : Link, l = { Link.reset with state := .receiving, buf := [0x0000, 0xFFFF], stall := some 1 } →
      l.state = .receiving ∧ l.buf.length + 1 = l.checkPosition ∧ crc l.buf = crc [0x0000, 0xFFFF] ∧
      crc l.buf ≠ 0 ∧ l.addr.toNat + l.count ≤ 0x10000 ∧
      ¬({ l with buf := [0x0001, 0xFFFF] } : Link).addr.toNat +
        ({ l with buf := [0x0001, 0xFFFF] } : Link).count ≤ 0x10000 ∧
      live.ctl.state = .start ∧ (inState .standby live).ctl.state ≠ .start := by
  rintro l rfl; decide +kernel

/-- Host accesses in flight, and a WRITE before and after its last word. -/
theorem witness_HostAccessesComplete :
    live.resetHeld = false ∧
    (busy live .hostRead 5 .read).port.inFlight = some ⟨.hostRead, 5, .read⟩ ∧
    (busy live .hostWrite 5 (.write 1)).port.inFlight = some ⟨.hostWrite, 5, .write 1⟩ ∧
    (busy live .stepWrite 5 (.write 1)).port.inFlight = some ⟨.stepWrite, 5, .write 1⟩ ∧
    (hosted live 5 1).link.state = .serving ∧ (hosted live 5 1).link.isWrite = true ∧
    (hosted live 5 1).link.index ≤ (hosted live 5 1).link.count ∧
    (hosted live 5 1).link.count < 2 ∧ (List.replicate 16 WordOutcome.held).length ≤ 16 := by
  decide +kernel

/-- A stepped word whose step is 100: within it, above it and below it. -/
theorem witness_HostAccessesComplete_stepped :
    ∀ s : State, s = { busy (live.store (offGuardC 15) 100) .stepRead 0x3000 .read with
        stepped := some ⟨0x3000, 1100, 15, none, 1100⟩ } →
      s.resetHeld = false ∧ s.stepped = some ⟨0x3000, 1100, 15, none, 1100⟩ ∧
      s.port.inFlight = some ⟨.stepRead, 0x3000, .read⟩ ∧ s.param (offGuardC 15) = 100 ∧
      (1000 : Word).toNat - 100 ≤ 1100 ∧ 1100 ≤ (1000 : Word).toNat + 100 ∧
      (999 : Word).toNat + 100 < 1100 ∧ 1100 < (1201 : Word).toNat - 100 := by
  rintro s rfl; decide +kernel

/-- Work of each class at a free port, and a port that is not free. -/
theorem witness_GrantsFollowTheClasses :
    State.reset.resetHeld = true ∧ (busy live .hostRead 5 .read).port.inFlight ≠ none ∧
    live.resetHeld = false ∧ live.port.inFlight = none ∧
    ({ live.port with class1 := [.tableRead 1] } : Port).class1 = [.tableRead 1] ∧
    ({ live.port with class1 := [.writeBack 1 2] } : Port).class1 ≠ [] ∧
    ({ live.port with class1 := [.capture 0 5] } : Port).class1 = [.capture 0 5] ∧
    ({ (withRecord 0 live).image with queue := [⟨0, 5⟩] } : Image).queue = [⟨0, 5⟩] ∧
    (withRecord 0 live).image.recs[0] = some ⟨0x3000, 100, 90, .tracking, .none⟩ ∧
    live.port.class1 = [] ∧ live.image.queue = [] ∧ live.stepped = none ∧
    ({ live with link := ⟨.serving, [0x0000, 5], [], none, 1, [], []⟩ } : State).readOffered = true ∧
    (hosted live 5 1).handoffWord ≠ none := by decide +kernel

/-- Addresses at the edges of the table, of a level record, of a guard entry and of none. -/
theorem witness_AddressesAreClassifiedInOrder :
    live.straps.toNat * 0x1000 = 0x1000 ∧ (0x1200 : Word).toNat - 0x1000 = 0x200 ∧
    (0x13FF : Word).toNat - 0x1000 < 0x400 ∧ (0x11FF : Word).toNat - 0x1000 < 0x200 ∧
    ¬(0x1400 : Word).toNat - 0x1000 < 0x400 ∧ ¬0x1000 ≤ (0x0FFF : Word).toNat ∧
    (withRecord 0 live).target 0x3000 = .level 0 ∧ live.target 0x1400 = .pass ∧
    ((live.store (offGuardA 15) 1).store (offGuardMask 0) 0xFFF0).target 0x0008 = .guard 15 := by
  decide +kernel

/-- A guard entry 15 of a word A that decides address 8. -/
def guarded (a : Word) : State := ((live.store (offGuardA 15) a).store (offGuardMask 0) 0xFFF0)

/-- A word of each kind without a row of its own. -/
theorem witness_WordsWithoutARowOfTheirOwn :
    (hosted live 0x1200 7).handoffWord = some (0x1200, 7) ∧ live.target 0x1200 = .partOwned ∧
    live.target 0x1122 = .free ∧ live.target 0x3000 = .pass ∧ live.target 0x1002 = .reference ∧
    live.target 0x1024 = .guardMask 3 ∧ live.target 0x1005 = .param 5 ∧ live.target 0x1016 = .param 0x016 ∧
    live.target 0x1013 = .param 0x013 ∧ live.target 0x1055 = .source 0 ∧
    bit (live.sourceWord 0) 0 = bit 0x0008 0 := by decide +kernel

/-- A guarded word of each kind: held and forwarded under each, and pre-read. -/
theorem witness_WordsWithoutARowOfTheirOwn_guarded :
    (guarded 0x0001).target 8 = .guard 15 ∧ field 0x0001 1 2 = 0 ∧ field 0x0003 1 2 = 1 ∧
    field 0x0005 1 2 = 2 ∧ field 0x0007 1 2 = 3 ∧ (guarded 0x0003).ctl.inhibit = true ∧
    (inState .run (guarded 0x0003)).ctl.inhibit = false ∧
    ((guarded 0x0005).mods.mods[guardZone 0x0005]).state = .absent ∧ guardZone 0x00E5 = 7 ∧
    ((moduleIn .recovering false).mods.mods[guardZone 0x00E5]).state = .recovering := by decide +kernel

/-- The words of enabled and disabled entries. -/
theorem witness_EnabledEntriesAreLocked :
    (hosted (guarded 1) 0x1052 1).handoffWord = some (0x1052, 1) ∧ live.target 0x1052 = .guardA 15 ∧
    live.target 0x1053 = .guardB 15 ∧ live.target 0x1054 = .guardC 15 ∧ live.target 0x1020 = .levelAddr 8 ∧
    bit ((guarded 1).word (0x025 + 3 * 15)) 0 = true ∧ bit (live.word (0x025 + 3 * 15)) 0 = false ∧
    bit 1 0 = true ∧ bit ((live.store 0x017 0x0100).word 0x017) 8 = true ∧
    bit (live.word 0x017) 8 = false := by decide +kernel

/-- Word 0 of channel 24's record by each of its rows: `old` is what stands, `w` what is written. -/
theorem witness_ChannelWordZeroWrites :
    (hosted live 0x111A 0x0021).handoffWord = some (0x111A, 0x0021) ∧ live.target 0x111A = .channel 24 0 ∧
    (live.chanCfg 24).enable = false ∧ bit 0x0021 0 = true ∧
    ((withChannel 24 live).chanCfg 24).enable = true ∧ bit 0x0020 0 = false ∧
    ((withChannel 24 live).chanCfg 24).low ≠ bit 0x0023 1 ∧
    field 0x0021 5 4 < ((live.store (offChannel 24 0) 0x01E1).chanCfg 24).pers ∧
    ((withChannel 24 live).chanCfg 24).shift ≠ field 0x0025 2 3 ∧
    ((withChannel 24 live).chanCfg 24).low = bit 0x0041 1 ∧
    ((withChannel 24 live).chanCfg 24).pers ≤ field 0x0041 5 4 ∧
    ((tripping .tripped true).meas.chans[18]).tripFlag = true ∧
    ((withChannel 24 live).meas.chans[24]).tripFlag = false ∧ live.mis.flag = false := by decide +kernel

/-- Disabling channel 15 with its module OFF and its fellow not tripped, and channel 17 under MISMATCH. -/
theorem witness_ChannelWordZeroWrites_disabling :
    (hosted (moduleIn .off true) 0x10D2 0x0020).handoffWord = some (0x10D2, 0x0020) ∧
    (hosted (moduleIn .off true) 0x10D2 0x0020).target 0x10D2 = .channel 15 0 ∧
    ((moduleIn .off true).chanCfg 15).enable = true ∧
    ((moduleIn .off true).meas.chans[15]).tripFlag = true ∧
    ((moduleIn .off true).meas.chans[(15 + 8) % 16]).tripFlag = false ∧
    ((moduleIn .off true).mods.mods[7]).state = .off ∧
    (15 : Fin 25).val % 8 = (7 : Fin 8).val ∧ (15 : Fin 25).val < 16 ∧
    (hosted (reflecting .tripped) 0x10E2 0x0020).handoffWord = some (0x10E2, 0x0020) ∧
    (reflecting .tripped).target 0x10E2 = .channel 17 0 ∧
    ((reflecting .tripped).chanCfg 17).enable = true ∧
    ({ reflecting .tripped with mis := ⟨2048, 820, 1, true⟩ } : State).mis.flag = true := by decide +kernel

theorem witness_ChannelSettingWrites :
    (hosted live 0x1121 5000).handoffWord = some (0x1121, 5000) ∧ live.target 0x1121 = .channel 24 7 ∧
    live.target 0x105B = .channel 0 1 ∧ live.target 0x105D = .channel 0 3 ∧
    live.target 0x105F = .channel 0 5 ∧ live.target 0x1060 = .channel 0 6 ∧
    (live.chanCfg 24).enable = false ∧ ((withChannel 24 live).chanCfg 24).enable = true := by
  decide +kernel

/-- RUN with modules 1 to 8 but the last ON by record, the present mask 0x0080, and a MODULE mark of channel
0 as given. -/
def maskCase (mark : Bool) : State :=
  let s := (moduleIn .on false).store offPresentMask 0x0080
  let tripped : Channel := { Channel.reset with tripFlag := mark }
  inState .run { s with meas := { s.meas with chans := s.meas.chans.set 0 tripped } }

/-- A mask of no module, one that takes the last module from RUN, and one that brings it back. -/
theorem witness_PresentMaskWrites :
    ∀ s : State, s = hosted (maskCase false) 0x1003 0x0001 →
      s.handoffWord = some (0x1003, 0x0001) ∧ s.target 0x1003 = .param offPresentMask ∧
      (0x0100 : Word) &&& 0x00FF = 0 ∧ (0x0001 : Word) &&& 0x00FF ≠ 0 ∧ s.mods.flag = false ∧
      s.ctl.state = .run ∧ (after .presentMaskWrite s).mods.flag = s.mods.flag ∧
      (after .presentMaskWrite (hosted (maskCase true) 0x1003 0x0001)).mods.flag = true ∧
      (after .presentMaskWrite (hosted live 0x1003 0x0001)).mods.flag = false := by
  rintro s rfl; decide +kernel

theorem witness_ParametersThatActAtTheirHandoff :
    (hosted live 0x1004 5000).handoffWord = some (0x1004, 5000) ∧ live.target 0x1004 = .param 0x004 ∧
    live.target 0x1012 = .param 0x012 ∧ live.target 0x100D = .param 0x00D ∧
    live.target 0x1010 = .param 0x010 ∧ live.target 0x1009 = .param 0x009 ∧
    live.target 0x1014 = .param 0x014 ∧ (live.arc.sources[4]).state = .disabled ∧
    ((withEdge 4 live).arc.sources[4]).state ≠ .disabled ∧
    srcDebounce ((withEdge 4 live).sourceWord 4) = 0 := by decide +kernel

/-- In STANDBY, source 4 with no debounce, the surge input at the level written: the output of the comparator
rises at the handoff. -/
def surging : State :=
  let s := hosted (inState .standby (live.store (offSource 4) 0x0001)) 0x1014 300
  { s with arc := { s.arc with
      sources := s.arc.sources.set 4 ⟨.untested, false, none⟩, surgeInput := 300 } }

theorem witness_ParametersThatActAtTheirHandoff_atOnce :
    surging.handoffWord = some (0x1014, 300) ∧ surging.target 0x1014 = .param 0x014 ∧
    (surging.arc.sources[4]).state ≠ .disabled ∧ (surging.arc.sources[4]).accepted = false ∧
    (surging.arc.sources[4]).change = none ∧ srcDebounce (surging.sourceWord 4) = 0 ∧
    ((after .surgeLevelWrite surging).arc.sources[4]).state = .suspect := by decide +kernel

/-- The sweep that load completion starts, one with a word left to read, and verdicts that stay and that
change. -/
def sweeping (v : Verdict) : State :=
  { site with checker := { site.checker with sweep := .running 0x121 0xFFFF, verdict := v } }

theorem witness_SweepsJudgeTheTable :
    site.resetHeld = false ∧ site.checker.sweep = .running 0x003 0xFFFF ∧
    site.checker.verdict = .unchecked ∧
    (after .sweepCompletion (sweeping .disagree)).checker.verdict = .disagree ∧
    (after .sweepCompletion (sweeping .agree)).checker.verdict = .disagree := by
  decide +kernel

/-- A consumed index that comes up to the write index, one that passes it, and one that leaves the ring
full. -/
theorem witness_ConsumedIndexWrites :
    (hosted live 0x1001 0).handoffWord = some (0x1001, 0) ∧ live.target 0x1001 = .consumed ∧
    live.param offConsumed % 32 = 0 ∧ live.pub.writeIndex.val = 0 ∧ (0 : Word).toNat ≤ 31 ∧
    ¬(32 : Word).toNat ≤ 31 ∧ ¬(1 + 32 - 0) % 32 ≤ (0 + 32 - 0) % 32 ∧
    ({ live.pub with writeIndex := 31 }.writeIndex.val + 1) % 32 = (0 : Word).toNat ∧
    live.pub.current = none := by decide +kernel

/-- A record of kind `k`. -/
def aRecord (k : RecKind) : Record := ⟨⟨k, 1, 2, 3⟩, 4, .run⟩

/-- A record in progress, one that waits, and a snapshot at each of its kinds of write. -/
theorem witness_PublicationWritesAreGranted :
    live.resetHeld = false ∧ live.port = ⟨none, []⟩ ∧ live.image.queue = [] ∧ live.hostWork = false ∧
    ({ live.pub with current := some ⟨aRecord .link, 7⟩ } : Publication).current = some ⟨aRecord .link, 7⟩ ∧
    ({ live.pub with fifo := [aRecord .state] } : Publication).fifo = [aRecord .state] ∧
    live.pub.current = none ∧ live.pub.fifo = [] ∧ ringFull (live.word offConsumed) live.pub = false ∧
    live.pub.lost ≤ 65535 ∧
    ({ live.pub with snapshot := some ⟨157, 4⟩ } : Publication).snapshot = some ⟨157, 4⟩ ∧
    0x216 = 0x200 + 22 ∧ 0x218 = 0x200 + 23 + 1 ∧ 0x239 = 0x200 + 56 + 1 ∧ 0x240 = 0x200 + 57 + 7 ∧
    0x2A3 = 0x200 + 156 + 7 := by decide +kernel

/-- Counts of modules, a command code, a proof and level records, each at an end of its range. -/
theorem witness_PublicationWritesAreGranted_status :
    site.mods.nOn ≤ 8 ∧ site.mods.nPresent = 8 ∧ live.ctl.lastCode = none ∧
    ({ live.ctl with lastCode := some 255 } : Controller).lastCode = some 255 ∧ live.arc.proof = none ∧
    ({ live.arc with proof := some ⟨4, .waiting⟩ } : Arc).proof = some ⟨4, .waiting⟩ ∧
    (withRecord 8 live).image.recs[8] = some ⟨0x3000, 100, 90, .tracking, .none⟩ ∧
    live.image.recs[0] = none ∧ (newRecord 5).capture = .capturing := by decide +kernel

theorem witness_PublicationWritesComplete :
    (busy live .snapshotWord 0x1200 (.write 1)).port.inFlight = some ⟨.snapshotWord, 0x1200, .write 1⟩ ∧
    (busy live .recordWord 0x1300 (.write 1)).port.inFlight = some ⟨.recordWord, 0x1300, .write 1⟩ ∧
    ({ live.pub with snapshot := some ⟨158, 4⟩, current := some ⟨aRecord .reset, 8⟩ } : Publication).current
      = some ⟨aRecord .reset, 8⟩ ∧
    ({ live.pub with snapshot := some ⟨158, 4⟩ } : Publication).snapshot = some ⟨158, 4⟩ := by
  decide +kernel

/-- A ring that is full with no record in progress, one that is not, and a FIFO with one place left. -/
theorem witness_RecordsAreQueuedOrCounted :
    ringFull (live.word offConsumed) live.pub = false ∧
    ringFull (live.word offConsumed) { live.pub with writeIndex := 31 } = true ∧
    live.pub.current = none ∧ live.pub.lost ≤ 65535 ∧
    (List.replicate 7 (aRecord .channel)).length < 8 := by decide +kernel

/-! ### The invariants -/

theorem site_valid : validUpTo 0x121 site := by
  have h : ∀ i : Fin 289, i.val + 1 ≠ offLevelMask →
      loadValue (i.val + 1) (site.word (i.val + 1)) = site.word (i.val + 1) := by decide +kernel
  refine ⟨fun off h1 h2 h3 => ?_, fun _ => ⟨by decide +kernel, by decide +kernel⟩⟩
  have := h ⟨off - 1, by omega⟩ (by simp only; omega)
  simp only at this
  rwa [show off - 1 + 1 = off by omega] at this

theorem site_startsAtLoad : startsAtLoad site :=
  ⟨by decide +kernel, fun h => absurd h (by decide +kernel)⟩

/-- The part at load completion meets the start-up's invariant, and a step from it answers. -/
theorem witness_StartUpInvariant :
    heldInReset site ∧ startsAtLoad site ∧ shadowRight site ∧ levelsRight site ∧
    step site = .next (idle site) := by
  refine ⟨fun h => absurd h (by decide +kernel), site_startsAtLoad,
    ⟨fun h => absurd h (by decide +kernel), fun _ => site_valid⟩, fun _ => ?_, ?_⟩
  case refine_2 =>
    have h : site.pending = [] := by decide +kernel
    simp [step, h]
  intro i
  have h : ∀ i : Fin 9, (site.image.recs[i]) = none ∧ bit (site.word offLevelMask) i.val = false := by
    decide +kernel
  rw [(h i).1, (h i).2]
  exact ⟨rfl, fun r hr => by simp at hr⟩

theorem witness_MeasurementInvariant : channelsRight site ∧ modulesRight site ∧ causesRight site := by
  refine ⟨fun _ => by decide +kernel, fun _ => by decide +kernel, by decide +kernel, by decide +kernel,
    by decide +kernel⟩

/-- In RUN too. -/
theorem witness_RFSafetyInvariant :
    ∀ s : State, s = inState .run site → startsAtLoad s ∧ rfSafe s := by
  rintro s rfl
  refine ⟨⟨by decide +kernel, fun h => absurd h (by decide +kernel)⟩, ?_, ?_, ?_, ?_, ?_⟩ <;>
    decide +kernel

theorem witness_CeilingInvariant : ceilingsRight site := by
  refine ⟨?_, ?_, ?_, ?_, ?_⟩ <;> decide +kernel

theorem witness_DriveImageInvariant : imageRight site := by
  refine ⟨by decide +kernel, by decide +kernel, ?_⟩
  intro i r h
  have : ∀ i : Fin 9, (site.image.recs[i]) = none := by decide +kernel
  rw [this i] at h
  simp at h

theorem witness_ListsAndRecordsInvariant : interruptionsRight site ∧ recordsRight site ∧ settled site := by
  refine ⟨⟨?_, ?_, ?_, ?_, ?_, ?_⟩, ⟨?_, ?_, ?_⟩, ?_⟩ <;> (try unfold settled) <;> decide +kernel

/-- The entries into RUN and RESTART, a release of INHIBIT, and the ways out of LOCKOUT. -/
theorem witness_RFComesOnOnlyThroughRestart :
    (ramping 40).ctl.state ≠ .run ∧ (after .rampExpiry (ramping 40)).ctl.state = .run ∧
    (ramping 40).ceil.eSys < (after .rampExpiry (ramping 40)).ceil.eSys ∧
    (after .resume (hosted site 0x1000 1)).ctl.inhibit = false ∧ site.ctl.inhibit = true ∧
    (after .release (hosted (inState .lockout site) 0x1000 3)).ctl.state = .standby := by decide +kernel

/-- A stored value that changes, and an enabled guard entry that a write of its word A disables. -/
theorem witness_StoredSettingsChangeOnlyAtHandoffs :
    site.loaded = true ∧ site.resetHeld = false ∧
    (after .writeWord (hosted site 0x1005 9)).word 0x005 ≠ site.word 0x005 ∧
    bit ((guarded 1).word (0x025 + 3 * 15)) 0 = true ∧
    bit ((after .guardWordAWrite (hosted (guarded 1) 0x1052 0)).word (0x025 + 3 * 15)) 0 = false := by
  decide +kernel

end Sys2Proof.Tests
end

section
/-! # Measurement channels (chapters 1 and 2)

The proofs of the statements about samples, channels, modules and channel words: the arithmetic of a sample,
what a measurement event may change, the controller's and the supervisor's reactions, the words of a
channel's record, and the measurement invariant. -/

namespace Sys2Proof.Machine

open Sys2Proof Sys2Proof.Config

/-! ## Reset -/

/-- A shadow of zeros reads 0 at every offset. -/
theorem word_of_zeros {u : State} (h : u.shadow = Vector.replicate 289 0) (off : Nat) : u.word off = 0 := by
  simp only [State.word, h, Vector.getElem?_replicate]
  split <;> rfl

/-- Settles O4: every figure is the one `State.reset` holds, and RESET takes nothing from the state it meets
but the input pins and the queue. -/
theorem resetReturnsEveryBlock : Obligations.ResetReturnsEveryBlock := by
  intro k s
  have hcauses : CauseSet.empty.isEmpty = true := by decide
  refine ⟨_, rfl, rfl, rfl, rfl, word_of_zeros rfl, ?_⟩
  simp [State.reset, Checker.reset, Measurement.reset, Channel.reset, Mismatch.reset, Modules.reset,
    Ceilings.reset, Image.reset, Arc.reset, Controller.reset, Link.reset, Port.reset, Publication.reset,
    Loader.reset, hcauses]

/-! ## The conversion (R5) -/

theorem satInt_of_mem {i : Int} (hlo : -32768 ≤ i) (hhi : i ≤ 32767) : satInt i = i := by
  unfold satInt; omega

theorem satInt_of_above {i : Int} (h : 32767 < i) : satInt i = 32767 := by
  unfold satInt; omega

theorem satInt_of_below {i : Int} (h : i < -32768) : satInt i = -32768 := by
  unfold satInt; omega

/-- Within `r ≤ R` and a 16-bit gain the scaled sample stays within its greatest value. -/
theorem scaled_le {r g R : Nat} (hr : r ≤ R) (hg : g ≤ 65535) : r * g + 2048 ≤ R * 65535 + 2048 :=
  Nat.add_le_add_right (Nat.mul_le_mul hr hg) _

/-- R5's division rounds to the nearest whole number, a half upward. -/
theorem rounded_near (p : Nat) :
    -2048 < 4096 * (((p + 2048) / 4096 : Nat) : Int) - p ∧
      4096 * (((p + 2048) / 4096 : Nat) : Int) - p ≤ 2048 := by
  omega

/-! ## The evaluation of a sample, by kind of sample (R4, R6) -/

theorem isRail_iff {r : Nat} : isRail r = true ↔ r = 0 ∨ r = 4095 := by
  simp [isRail]

theorem evalSample_rail {r : Nat} (h : r = 0 ∨ r = 4095) (cfg : ChanCfg) (ch : Channel) :
    evalSample cfg true r ch = railSample cfg ch := by
  simp [evalSample, isRail_iff.mpr h]

/-- A flow sample, or a value that is neither rail, is evaluated as a plain sample. -/
theorem evalSample_plain {rails : Bool} {r : Nat} (h : rails = false ∨ (r ≠ 0 ∧ r ≠ 4095)) (cfg : ChanCfg)
    (ch : Channel) : evalSample cfg rails r ch = plainSample cfg r ch := by
  have : ¬(rails && isRail r) = true := by
    rw [Bool.and_eq_true, isRail_iff]
    rintro ⟨rfl, hr⟩
    rcases h with h | ⟨h0, h1⟩
    · cases h
    · exact hr.elim h0 h1
  simp [evalSample, this]

/-- R7: a rail sample that does not bring the channel into FAULT only counts. -/
theorem railSample_counts {cfg : ChanCfg} {ch : Channel}
    (h : ch.inFault = true ∨ min cfg.pers (ch.railCount + 1) ≠ cfg.pers) :
    railSample cfg ch = { ch with railCount := min cfg.pers (ch.railCount + 1) } := by
  rcases h with h | h <;> simp [railSample, h]

/-- R7: the rail sample that brings the count to the persistence. -/
theorem railSample_enters {cfg : ChanCfg} {ch : Channel} (hf : ch.inFault = false)
    (hn : min cfg.pers (ch.railCount + 1) = cfg.pers) :
    railSample cfg ch =
      { ch with railCount := cfg.pers, persCount := 0, tripFlag := false, inFault := true,
                factor := cfg.faultFactor, state := .fault } := by
  simp [railSample, hf, hn]

@[simp] theorem railSample_instant (cfg : ChanCfg) (ch : Channel) :
    (railSample cfg ch).instant = ch.instant := by
  by_cases h : ch.inFault = true ∨ min cfg.pers (ch.railCount + 1) ≠ cfg.pers
  · rw [railSample_counts h]
  · rw [not_or, not_not, Bool.not_eq_true] at h
    rw [railSample_enters h.1 h.2]

section PlainSample
variable (cfg : ChanCfg) (r : Nat) (ch : Channel)

@[simp] theorem plainSample_instant :
    (plainSample cfg r ch).instant = convert r cfg.gain cfg.offset := rfl

@[simp] theorem plainSample_unseeded : (plainSample cfg r ch).unseeded = false := rfl

@[simp] theorem plainSample_inFault : (plainSample cfg r ch).inFault = false := rfl

@[simp] theorem plainSample_railCount : (plainSample cfg r ch).railCount = 0 := rfl

@[simp] theorem plainSample_factor :
    (plainSample cfg r ch).factor = foldFactor cfg (plainSample cfg r ch).filtered := rfl

theorem plainSample_trip :
    ((plainSample cfg r ch).tripFlag, (plainSample cfg r ch).persCount) =
      judgeTrip cfg ch.tripFlag ch.persCount (convert r cfg.gain cfg.offset) := rfl

/-- R8, R10: leaving FAULT and seeding take no filter step. -/
theorem plainSample_seeds (h : ch.inFault = true ∨ ch.unseeded = true) :
    (plainSample cfg r ch).filtered = convert r cfg.gain cfg.offset := by
  have : (ch.inFault || ch.unseeded) = true := by simpa using h
  simp [plainSample, this]

/-- R9: a seeded channel that is not in FAULT takes one filter step. -/
theorem plainSample_filters (hf : ch.inFault = false) (hu : ch.unseeded = false) :
    (plainSample cfg r ch).filtered =
      filterStep cfg.shift (convert r cfg.gain cfg.offset) ch.filtered := by
  simp [plainSample, hf, hu]

end PlainSample

/-- Settles O10: Nat division rounds as R5 asks, and a rail sample keeps the instant value. -/
theorem conversionRoundsAndSaturates : Obligations.ConversionRoundsAndSaturates := by
  refine ⟨fun r g hg => ⟨fun hr => ?_, fun hr => ?_⟩, fun r g o => ⟨?_, ?_, ?_, ?_⟩, ?_, ?_⟩
  · have := scaled_le hr hg; omega
  · have := scaled_le hr hg; omega
  · simpa using rounded_near (r * g)
  · exact satInt_of_mem
  · exact satInt_of_above
  · exact satInt_of_below
  · intro r o hlo hhi
    simpa [convert] using satInt_of_mem hlo hhi
  · intro cfg rails r ch
    split
    case isTrue h => obtain ⟨rfl, hr⟩ := h; simp [evalSample_rail hr]
    case isFalse h =>
      rw [evalSample_plain (by cases rails <;> simp_all), plainSample_instant]

/-- Settles O9, by the kind of sample: `railSample` and `plainSample` say each case. -/
theorem railSamplesAndSeeding : Obligations.RailSamplesAndSeeding := by
  refine ⟨fun cfg ch r hr => ⟨fun h => ?_, fun hf hn => ?_, ?_⟩, fun cfg rails r ch hr hs => ?_,
    fun cfg rails r ch hr => ?_⟩
  · rw [evalSample_rail hr, railSample_counts h]
  · rw [evalSample_rail hr, railSample_enters hf hn]
  · rw [evalSample_plain (.inl rfl), plainSample_instant]
  · have hv := plainSample_seeds cfg r ch hs
    simp only [evalSample_plain hr]
    refine ⟨rfl, hv, rfl, rfl, rfl, ?_, rfl⟩
    rw [plainSample_factor, hv, foldFactor]
  · simp only [evalSample_plain hr]
    exact ⟨rfl, rfl, rfl, plainSample_filters cfg r ch⟩

/-! ## The filter (R9) -/

/-- The magnitude of a filter step: the distance over `2 ^ k`, rounded up. -/
def stepSize (k : Nat) (x v : Int) : Nat := ((x - v).natAbs + (2 ^ k - 1)) / 2 ^ k

theorem filterStep_up {k : Nat} {x v : Int} (h : v ≤ x) : filterStep k x v = v + stepSize k x v := by
  exact if_pos (by omega)

theorem filterStep_down {k : Nat} {x v : Int} (h : x < v) : filterStep k x v = v - stepSize k x v := by
  exact if_neg (by omega)

/-- `stepSize` is the least count of `2 ^ k` that reaches the distance. -/
theorem stepSize_mul (k : Nat) (x v : Int) :
    stepSize k x v * 2 ^ k < (x - v).natAbs + 2 ^ k ∧ (x - v).natAbs ≤ stepSize k x v * 2 ^ k := by
  have hp : 0 < 2 ^ k := Nat.two_pow_pos k
  have hdiv := Nat.div_add_mod' ((x - v).natAbs + (2 ^ k - 1)) (2 ^ k)
  have hmod := Nat.mod_lt ((x - v).natAbs + (2 ^ k - 1)) hp
  unfold stepSize
  omega

theorem stepSize_self (k : Nat) (x : Int) : stepSize k x x = 0 := by
  have : 0 < 2 ^ k := Nat.two_pow_pos k
  simp [stepSize, Nat.div_eq_zero_iff]

theorem stepSize_pos {k : Nat} {x v : Int} (h : x ≠ v) : 1 ≤ stepSize k x v := by
  have hle := (stepSize_mul k x v).2
  by_contra hz
  rw [show stepSize k x v = 0 by omega] at hle
  omega

/-- The step is never longer than the distance. -/
theorem stepSize_le (k : Nat) (x v : Int) : stepSize k x v ≤ (x - v).natAbs := by
  rcases eq_or_ne x v with rfl | hne
  · simp [stepSize_self]
  have hp : 1 ≤ 2 ^ k := Nat.one_le_two_pow
  have hd : 1 ≤ (x - v).natAbs := by omega
  apply Nat.div_le_of_le_mul
  calc (x - v).natAbs + (2 ^ k - 1)
      ≤ (x - v).natAbs + (2 ^ k - 1) * (x - v).natAbs := by gcongr; exact Nat.le_mul_of_pos_right _ hd
    _ = (1 + (2 ^ k - 1)) * (x - v).natAbs := by ring
    _ = 2 ^ k * (x - v).natAbs := by rw [Nat.add_sub_cancel' hp]

theorem filterStep_self (k : Nat) (x : Int) : filterStep k x x = x := by
  simp [filterStep_up le_rfl, stepSize_self]

/-- Below the instant value the filter rises, and not past it. -/
theorem filterStep_rises {k : Nat} {x v : Int} (h : v < x) :
    v + 1 ≤ filterStep k x v ∧ filterStep k x v ≤ x := by
  have hpos := stepSize_pos (k := k) h.ne'
  have hle := stepSize_le k x v
  rw [filterStep_up h.le]
  omega

/-- Above the instant value the filter falls, and not past it. -/
theorem filterStep_falls {k : Nat} {x v : Int} (h : x < v) :
    filterStep k x v ≤ v - 1 ∧ x ≤ filterStep k x v := by
  have hpos := stepSize_pos (k := k) h.ne
  have hle := stepSize_le k x v
  rw [filterStep_down h]
  omega

/-- A step never lengthens the distance, and shortens it while there is one. -/
theorem filterStep_closer {k : Nat} {x v : Int} (h : v ≠ x) :
    (x - filterStep k x v).natAbs < (x - v).natAbs := by
  rcases lt_or_gt_of_ne h with hlt | hgt
  · have := filterStep_rises (k := k) hlt; omega
  · have := filterStep_falls (k := k) hgt; omega

theorem filterStep_between (k : Nat) (x v : Int) :
    min x v ≤ filterStep k x v ∧ filterStep k x v ≤ max x v := by
  rcases lt_trichotomy v x with h | rfl | h
  · have := filterStep_rises (k := k) h; omega
  · simp [filterStep_self]
  · have := filterStep_falls (k := k) h; omega

/-- A steady instant value is reached: the distance is the number of samples that suffices. -/
theorem filterStep_iterate_reaches (k : Nat) (x v : Int) : ∃ n : Nat, (filterStep k x)^[n] v = x := by
  induction hd : (x - v).natAbs using Nat.strong_induction_on generalizing v with
  | _ d ih =>
    by_cases h : v = x
    · exact ⟨0, h⟩
    · obtain ⟨n, hn⟩ := ih _ (hd ▸ filterStep_closer (k := k) h) (filterStep k x v) rfl
      exact ⟨n + 1, hn⟩

theorem retuneChannel_filtered (old new : ChanCfg) (ch : Channel) :
    (retuneChannel old new ch).filtered = ch.filtered := by
  unfold retuneChannel
  dsimp only
  split <;> rfl

/-- Settles O11: the step is at least 1 and at most the distance, so the distance falls to 0. -/
theorem filterMovesAndNeverOvershoots : Obligations.FilterMovesAndNeverOvershoots := by
  refine ⟨fun cfg rails r ch hr hf hu => ?_, fun k x v => ?_, retuneChannel_filtered⟩
  · rw [evalSample_plain hr, plainSample_filters cfg r ch hf hu]
  · have hbetween := filterStep_between k x v
    refine ⟨stepSize_mul k x v, ?_, fun h => ⟨filterStep_up h.le, filterStep_rises h⟩,
      fun h => ⟨filterStep_down h, filterStep_falls h⟩, ?_, ?_, filterStep_iterate_reaches k x v⟩
    · rintro rfl; exact filterStep_self k x
    · simp only [filterStep, pow_zero, Nat.sub_self, Nat.add_zero, Nat.div_one]; omega
    · omega

/-! ## The factor (R11, R12) -/

/-- Of a quantity `p` on a slope of length `d`, the share of 4096 lies within 0 to 4096. -/
theorem slope_mem {p d : Int} (hp : 0 ≤ p) (hd : 0 < d) (hpd : p ≤ d) :
    0 ≤ 4096 * p / d ∧ 4096 * p / d ≤ 4096 :=
  ⟨Int.ediv_nonneg (by omega) hd.le, Int.ediv_le_of_le_mul hd (by omega)⟩

theorem slope_mono {p q d : Int} (hd : 0 < d) (hpq : p ≤ q) : 4096 * p / d ≤ 4096 * q / d :=
  Int.ediv_le_ediv hd (by omega)

section FactorHigh
variable {s t v w : Int}

theorem factorHigh_start (hst : s < t) (hv : v ≤ s) : factorHigh s t v = 4096 := by
  simp [factorHigh, hst, hv]

theorem factorHigh_stop (hst : s < t) (hv : t ≤ v) : factorHigh s t v = 0 := by
  have : ¬ v ≤ s := by omega
  simp [factorHigh, hst, hv, this]

theorem factorHigh_slope (hs : s < v) (ht : v < t) :
    (factorHigh s t v : Int) = 4096 * (t - v) / (t - s) := by
  have h : s < t ∧ ¬ v ≤ s ∧ ¬ t ≤ v := by omega
  simp only [factorHigh, h, if_true, if_false]
  exact Int.toNat_of_nonneg (slope_mem (by omega) (by omega) (by omega)).1

theorem factorHigh_step (hts : t ≤ s) : factorHigh s t v = if v < t then 4096 else 0 := by
  have : ¬ s < t := by omega
  simp [factorHigh, this]

theorem factorHigh_le (s t v : Int) : factorHigh s t v ≤ 4096 := by
  rcases lt_or_ge s t with hst | hts
  · rcases le_or_gt v s with hv | hs
    · rw [factorHigh_start hst hv]
    rcases le_or_gt t v with hv | ht
    · rw [factorHigh_stop hst hv]; omega
    · have := (slope_mem (p := t - v) (d := t - s) (by omega) (by omega) (by omega)).2
      have := factorHigh_slope hs ht
      omega
  · rw [factorHigh_step hts]; split <;> omega

/-- The factor never rises as the quantity does. -/
theorem factorHigh_antitone (h : v ≤ w) : factorHigh s t w ≤ factorHigh s t v := by
  rcases lt_or_ge s t with hst | hts
  · rcases le_or_gt v s with hv | hs
    · rw [factorHigh_start hst hv]; exact factorHigh_le s t w
    rcases le_or_gt t w with hw | ht
    · rw [factorHigh_stop hst hw]; omega
    · have hv := factorHigh_slope hs (by omega : v < t)
      have hw := factorHigh_slope (by omega : s < w) ht
      have := slope_mono (d := t - s) (by omega) (by omega : t - w ≤ t - v)
      omega
  · rw [factorHigh_step hts, factorHigh_step hts]; split <;> split <;> omega

end FactorHigh

/-- R12 is R11 of the mirrored quantity and levels. -/
theorem factorLow_eq_mirror (s t v : Int) : factorLow s t v = factorHigh (-s) (-t) (-v) := by
  simp only [factorLow, factorHigh, neg_lt_neg_iff, neg_le_neg_iff, neg_sub_neg]

/-- Settles O12: direction HIGH by its three ranges, direction LOW as its mirror. -/
theorem factorFoldsBack : Obligations.FactorFoldsBack := by
  intro s t
  simp only [factorLow_eq_mirror]
  refine ⟨fun hst => ⟨fun v => factorHigh_start hst, fun v => factorHigh_stop hst, fun v hs ht =>
      ⟨by omega, by omega, factorHigh_slope hs ht⟩⟩,
    fun hts => ⟨fun v hv => ?_, fun v hv => ?_⟩,
    fun v w h => ⟨factorHigh_antitone h, factorHigh_le s t v⟩,
    fun hts => ⟨fun v hv => factorHigh_start (by omega) (by omega),
      fun v hv => factorHigh_stop (by omega) (by omega), fun v ht hs => ?_⟩,
    fun hst => ⟨fun v hv => ?_, fun v hv => ?_⟩,
    fun v w h => ⟨factorHigh_antitone (by omega), factorHigh_le _ _ _⟩⟩
  · rw [factorHigh_step hts, if_pos hv]
  · rw [factorHigh_step hts, if_neg (by omega)]
  · rw [factorHigh_slope (by omega) (by omega), neg_sub_neg, neg_sub_neg]
  · rw [factorHigh_step (by omega), if_pos (by omega)]
  · rw [factorHigh_step (by omega), if_neg (by omega)]

/-! ## The trip judgement (R14, R15) -/

theorem beyondTrip_iff (cfg : ChanCfg) (x : Int) : beyondTrip cfg x = true ↔
    if cfg.low = true then x ≤ cfg.tripLevel else cfg.tripLevel ≤ x := by
  cases h : cfg.low <;> simp [beyondTrip, h]

/-- Toward the release level a 16-bit trip level can only leave the range on one side. -/
theorem released_iff {cfg : ChanCfg} (hlo : -32768 ≤ cfg.tripLevel) (hhi : cfg.tripLevel ≤ 32767)
    (x : Int) :
    let release := if cfg.low = true then min 32767 (cfg.tripLevel + cfg.hyst)
      else max (-32768) (cfg.tripLevel - cfg.hyst)
    released cfg x = true ↔ if cfg.low = true then release ≤ x else x ≤ release := by
  have hlow : satInt (cfg.tripLevel + cfg.hyst) = min 32767 (cfg.tripLevel + cfg.hyst) := by
    unfold satInt; omega
  have hhigh : satInt (cfg.tripLevel - cfg.hyst) = max (-32768) (cfg.tripLevel - cfg.hyst) := by
    unfold satInt; omega
  cases h : cfg.low <;> simp [released, h, hlow, hhigh]

theorem persAfter_le (cfg : ChanCfg) (count : Nat) (x : Int) :
    persAfter cfg count x ≤ min cfg.pers (count + 1) := by
  unfold persAfter; split <;> omega

theorem judgeTrip_clear (cfg : ChanCfg) (count : Nat) (x : Int) :
    judgeTrip cfg false count x = (decide (persAfter cfg count x = cfg.pers), persAfter cfg count x) := by
  simp [judgeTrip, beq_eq_decide]

theorem judgeTrip_released {cfg : ChanCfg} {x : Int} (h : released cfg x = true) (count : Nat) :
    judgeTrip cfg true count x = (false, 0) := by
  simp [judgeTrip, h]

theorem judgeTrip_kept {cfg : ChanCfg} {x : Int} (h : ¬released cfg x = true) (count : Nat) :
    judgeTrip cfg true count x = (true, persAfter cfg count x) := by
  simp [judgeTrip, h]

/-- From a clear flag and a count of `n`, fewer than `P - n` samples cannot set the flag (R14). -/
theorem judgeTrip_foldl_clear (cfg : ChanCfg) (xs : List Int) :
    ∀ n : Nat, n + xs.length < cfg.pers →
      (xs.foldl (fun p x => judgeTrip cfg p.1 p.2 x) (false, n)).1 = false := by
  induction xs with
  | nil => intros; rfl
  | cons x xs ih =>
    intro n hn
    rw [List.length_cons] at hn
    have hle := persAfter_le cfg n x
    have hne : persAfter cfg n x ≠ cfg.pers := by omega
    rw [List.foldl_cons, judgeTrip_clear, decide_eq_false hne]
    exact ih (persAfter cfg n x) (by omega)

/-- Settles O13: the judgement by the flag it meets; fewer than P samples by induction on the samples. -/
theorem tripJudgement : Obligations.TripJudgement := by
  intro cfg hp hlo hhi
  refine ⟨fun count x => ?_, fun xs hxs => judgeTrip_foldl_clear cfg xs 0 (by omega),
    fun rails r ch hr => ?_⟩
  · have hcount : persAfter cfg count x =
        if (if cfg.low = true then x ≤ cfg.tripLevel else cfg.tripLevel ≤ x)
        then min cfg.pers (count + 1) else 0 := by
      simp only [persAfter, beyondTrip_iff]
    dsimp only
    have hgood := released_iff hlo hhi x
    refine ⟨?_, fun h => judgeTrip_released (hgood.mpr h) count, fun h => ?_⟩
    · rw [judgeTrip_clear, hcount]
    · rw [judgeTrip_kept (fun hr => h (hgood.mp hr)), hcount]
  · rw [evalSample_plain hr, plainSample_trip]

/-! ## What a measurement event may change

The measurement unit, the mismatch evaluator, the module supervisor and the controller's reaction to trip
causes move their own blocks, and never turn anything on. -/

/-- `x` comes of `s` by measurement events alone, before the ceilings are computed. -/
structure Measured (s x : State) : Prop where
  frame : x = { s with
    meas := x.meas, mis := x.mis, mods := x.mods, ctl := x.ctl
    ceil := { s.ceil with eSys := x.ceil.eSys, eMod := x.ceil.eMod }
    arc := { s.arc with settle := x.arc.settle } }
  running : x.ctl.state.running = true → s.ctl.state.running = true ∧ x.ceil.eSys = s.ceil.eSys
  modules : ∀ n : Fin 8, (x.mods.mods[n]).state = .on →
    (s.mods.mods[n]).state = .on ∧ x.ceil.eMod[n] = s.ceil.eMod[n]

theorem Measured.refl (s : State) : Measured s s := ⟨rfl, fun h => ⟨h, rfl⟩, fun _ h => ⟨h, rfl⟩⟩

theorem Measured.trans {s x y : State} (h : Measured s x) (k : Measured x y) : Measured s y where
  frame := by
    have hy := k.frame
    rw [h.frame] at hy
    exact hy
  running hr := by
    obtain ⟨hx, he⟩ := k.running hr
    obtain ⟨hs, he'⟩ := h.running hx
    exact ⟨hs, he.trans he'⟩
  modules n hn := by
    obtain ⟨hx, he⟩ := k.modules n hn
    obtain ⟨hs, he'⟩ := h.modules n hx
    exact ⟨hs, he.trans he'⟩

section Measured
variable {s x : State} (h : Measured s x)
include h

theorem Measured.resetHeld : x.resetHeld = s.resetHeld := by rw [h.frame]
theorem Measured.resetKind : x.resetKind = s.resetKind := by rw [h.frame]
theorem Measured.straps : x.straps = s.straps := by rw [h.frame]
theorem Measured.ms : x.ms = s.ms := by rw [h.frame]
theorem Measured.shadow : x.shadow = s.shadow := by rw [h.frame]
theorem Measured.loader : x.loader = s.loader := by rw [h.frame]
theorem Measured.checker : x.checker = s.checker := by rw [h.frame]
theorem Measured.image : x.image = s.image := by rw [h.frame]
theorem Measured.link : x.link = s.link := by rw [h.frame]
theorem Measured.stepped : x.stepped = s.stepped := by rw [h.frame]
theorem Measured.port : x.port = s.port := by rw [h.frame]
theorem Measured.pub : x.pub = s.pub := by rw [h.frame]
theorem Measured.pending : x.pending = s.pending := by rw [h.frame]

theorem Measured.arc : x.arc = { s.arc with settle := x.arc.settle } := by rw [h.frame]

theorem Measured.marksKept : marksKept s x := by
  refine ⟨?_, ?_, ?_⟩ <;> rw [h.frame]

end Measured

/-! ### A change of the trip cause set -/

section CauseChange
variable (m : Cause) (was now : Bool) (e : Ev)

@[simp] theorem causeChange_meas : (causeChange m was now e).st.meas = e.st.meas := by
  rw [causeChange_only m was now e]

@[simp] theorem causeChange_mis : (causeChange m was now e).st.mis = e.st.mis := by
  rw [causeChange_only m was now e]

@[simp] theorem causeChange_mods : (causeChange m was now e).st.mods = e.st.mods := by
  rw [causeChange_only m was now e]

@[simp] theorem causeChange_eMod : (causeChange m was now e).st.ceil.eMod = e.st.ceil.eMod := by
  rw [causeChange_only m was now e]

theorem running_eq_false_iff {st : CtlState} : st.running = false ↔ ¬(st = .restart ∨ st = .run) := by
  cases st <;> simp [CtlState.running]

/-- R106: MISMATCH in RESTART or RUN leads to TRIPPED or LOCKOUT. -/
theorem mismatchInterruption_muted : (mismatchInterruption e).st.ctl.state.running = false := by
  unfold mismatchInterruption
  simp only [transition_st, enterState]
  split <;> rfl

/-- A member that joins leaves the controller in a muted state (R101, R107). -/
theorem causeJoin_muted : (causeJoin m e).st.ctl.state.running = false := by
  unfold causeJoin
  dsimp only
  split
  · split
    · exact mismatchInterruption_muted _
    · rfl
  · split
    · exact mismatchInterruption_muted _
    · rfl
  next h => exact congrArg CtlState.running h
  next hrestart hrun _ => exact running_eq_false_iff.mpr (not_or.mpr ⟨hrestart, hrun⟩)

/-- A member that leaves changes neither the controller state nor a ceiling. -/
theorem causeLeave_keeps :
    (causeLeave m e).st.ctl.state = e.st.ctl.state ∧ (causeLeave m e).st.ceil = e.st.ceil := by
  unfold causeLeave
  dsimp only
  split <;> exact ⟨rfl, rfl⟩

/-- A change of the trip cause set turns nothing on. -/
theorem causeChange_measured : Measured e.st (causeChange m was now e).st where
  frame := by
    rw [causeChange_meas, causeChange_mis, causeChange_mods, causeChange_eMod]
    exact causeChange_only m was now e
  running h := by
    cases was <;> cases now
    · exact ⟨h, rfl⟩
    · rw [causeChange_join, causeJoin_muted] at h; cases h
    · obtain ⟨hstate, hceil⟩ := causeLeave_keeps m e
      rw [causeChange_leave] at h ⊢
      exact ⟨hstate ▸ h, by rw [hceil]⟩
    · exact ⟨h, rfl⟩
  modules n h := by
    rw [causeChange_mods] at h
    rw [causeChange_eMod]
    exact ⟨h, rfl⟩

end CauseChange

/-! ### The module supervisor -/

/-- A transition into any state but ON leaves the module's effective ceiling at 0 and the others alone. -/
theorem setModule_measured {st : ModState} (hst : st ≠ .on) (n : Fin 8) (hold : Timer) (w : Word) (e : Ev) :
    Measured e.st (setModule n st hold w e).st where
  frame := rfl
  running h := ⟨h, rfl⟩
  modules k h := by
    by_cases hk : n.val = k.val
    · simp [setModule, hk, hst] at h
    · simp only [setModule, Ev.upd_st, Ev.draft_st, Fin.getElem_fin, Vector.getElem_set_ne _ _ hk] at h ⊢
      exact ⟨h, trivial⟩

@[simp] theorem rebalance_mods (e : Ev) : (rebalance e).st.mods = recount e.st.mods := by
  simp [rebalance]

@[simp] theorem rebalance_meas (e : Ev) : (rebalance e).st.meas = e.st.meas := by
  simp [rebalance]

@[simp] theorem rebalance_mis (e : Ev) : (rebalance e).st.mis = e.st.mis := by
  simp [rebalance]

theorem recount_measured (s : State) : Measured s { s with mods := recount s.mods } :=
  ⟨rfl, fun h => ⟨h, rfl⟩, fun _ h => ⟨h, rfl⟩⟩

theorem rebalance_measured (e : Ev) : Measured e.st (rebalance e).st :=
  (recount_measured e.st).trans
    (causeChange_measured .modules e.st.mods.flag (recount e.st.mods).flag
      (e.upd fun s => { s with mods := recount s.mods }))

/-- R37: a module in ON or RECOVERING goes to OFF. -/
theorem moduleTripSet_moves {n : Fin 8} {e : Ev}
    (h : (e.st.mods.mods[n]).state = .on ∨ (e.st.mods.mods[n]).state = .recovering) (w : Word) :
    moduleTripSet n w e = rebalance (setModule n .off none w e) := by
  unfold moduleTripSet
  rcases h with h | h <;> rw [h]

/-- R37: no other module moves. -/
theorem moduleTripSet_keeps {n : Fin 8} {e : Ev}
    (h : (e.st.mods.mods[n]).state = .off ∨ (e.st.mods.mods[n]).state = .absent) (w : Word) :
    moduleTripSet n w e = e := by
  unfold moduleTripSet
  rcases h with h | h <;> rw [h]

/-- R38: a module in OFF whose trip condition has ended goes to RECOVERING. -/
theorem moduleTripClear_moves {n : Fin 8} {e : Ev} (ht : e.st.moduleTripped n = false)
    (h : (e.st.mods.mods[n]).state = .off) (w : Word) :
    moduleTripClear n w e = rebalance (setModule n .recovering (some e.st.modHoldLength) w e) := by
  simp only [moduleTripClear, ht, h, Bool.false_eq_true, if_false]

/-- R38: nothing else moves. -/
theorem moduleTripClear_keeps {n : Fin 8} {e : Ev}
    (h : e.st.moduleTripped n = true ∨ (e.st.mods.mods[n]).state ≠ .off) (w : Word) :
    moduleTripClear n w e = e := by
  unfold moduleTripClear
  rcases h with h | h
  · rw [if_pos h]
  · split
    · rfl
    · split
      · contradiction
      · rfl

/-- Every change of a module's trip flags leaves the event as it was or moves the module out of ON. -/
theorem moduleTrip_cases (n : Fin 8) (w : Word) (set : Bool) (e : Ev) :
    let e' := if set then moduleTripSet n w e else moduleTripClear n w e
    e' = e ∨ ∃ st hold, st ≠ .on ∧ e' = rebalance (setModule n st hold w e) := by
  cases set
  · by_cases h : e.st.moduleTripped n = true ∨ (e.st.mods.mods[n]).state ≠ .off
    · exact .inl (moduleTripClear_keeps h w)
    · rw [not_or, not_not, Bool.not_eq_true] at h
      exact .inr ⟨_, _, by decide, moduleTripClear_moves h.1 h.2 w⟩
  · cases h : (e.st.mods.mods[n]).state
    · exact .inl (moduleTripSet_keeps (.inr h) w)
    · exact .inr ⟨_, _, by decide, moduleTripSet_moves (.inl h) w⟩
    · exact .inl (moduleTripSet_keeps (.inl h) w)
    · exact .inr ⟨_, _, by decide, moduleTripSet_moves (.inr h) w⟩

/-! ### A channel -/

/-- The records of a channel whose FAULT was `was` and is `now` (R7, R8, R18). -/
def faultDrafts (c : Fin 25) (was now : Bool) : List Draft :=
  if now = was then [] else [⟨.channel, word c.val, if now = true then 1 else 0, 0⟩]

@[simp] theorem reportFault_st (c : Fin 25) (was now : Bool) (e : Ev) :
    (reportFault c was now e).st = e.st := by
  unfold reportFault; split <;> rfl

@[simp] theorem reportFault_out (c : Fin 25) (was now : Bool) (e : Ev) :
    (reportFault c was now e).out = e.out ++ faultDrafts c was now := by
  cases was <;> cases now <;> simp [reportFault, faultDrafts, faultDraft]

/-- The module channel `c` feeds (R22). -/
def moduleOf (c : Fin 25) : Fin 8 := ⟨c.val % 8, Nat.mod_lt _ (by decide)⟩

/-- R22: a changed trip flag of a channel 0 to 15 reaches the module supervisor. -/
theorem reportTrip_module {c : Fin 25} (hc : c.val < 16) {was now : Bool} (h : was ≠ now) (e : Ev) :
    reportTrip c was now e =
      if now then moduleTripSet (moduleOf c) (word c.val) e
      else moduleTripClear (moduleOf c) (word c.val) e := by
  simp only [reportTrip, h, hc, if_false, dif_pos, moduleOf]

/-- R23: a trip flag of a channel 16 to 24 reaches the controller. -/
theorem reportTrip_system {c : Fin 25} {i : Fin 9} (hc : c.val = 16 + i.val) (was now : Bool) (e : Ev) :
    reportTrip c was now e = causeChange (.chan i) was now e := by
  have hi : (⟨c.val - 16, by omega⟩ : Fin 9) = i := Fin.ext (by simp [hc])
  have : ¬ c.val < 16 := by omega
  cases was <;> cases now <;> simp [reportTrip, this, hi]

/-- All that a report of a trip flag can be. -/
theorem reportTrip_cases (c : Fin 25) (was now : Bool) (e : Ev) :
    reportTrip c was now e = e ∨
    (c.val < 16 ∧ ∃ st hold, st ≠ .on ∧
      reportTrip c was now e = rebalance (setModule (moduleOf c) st hold (word c.val) e)) ∨
    (16 ≤ c.val ∧ ∃ i, reportTrip c was now e = causeChange (.chan i) was now e) := by
  by_cases h : was = now
  · exact .inl (by simp [reportTrip, h])
  by_cases hc : c.val < 16
  · rw [reportTrip_module hc h]
    rcases moduleTrip_cases (moduleOf c) (word c.val) now e with h | h
    · exact .inl h
    · exact .inr (.inl ⟨hc, h⟩)
  · refine .inr (.inr ⟨by omega, ⟨c.val - 16, by omega⟩, reportTrip_system ?_ was now e⟩)
    exact (Nat.add_sub_cancel' (by omega)).symm

@[simp] theorem reportTrip_meas (c : Fin 25) (was now : Bool) (e : Ev) :
    (reportTrip c was now e).st.meas = e.st.meas := by
  rcases reportTrip_cases c was now e with h | ⟨-, st, hold, -, h⟩ | ⟨-, i, h⟩ <;> rw [h]
  · rw [rebalance_meas]; rfl
  · rw [causeChange_meas]

@[simp] theorem reportTrip_mis (c : Fin 25) (was now : Bool) (e : Ev) :
    (reportTrip c was now e).st.mis = e.st.mis := by
  rcases reportTrip_cases c was now e with h | ⟨-, st, hold, -, h⟩ | ⟨-, i, h⟩ <;> rw [h]
  · rw [rebalance_mis]; rfl
  · rw [causeChange_mis]

theorem reportTrip_measured (c : Fin 25) (was now : Bool) (e : Ev) :
    Measured e.st (reportTrip c was now e).st := by
  rcases reportTrip_cases c was now e with h | ⟨-, st, hold, hst, h⟩ | ⟨-, i, h⟩ <;> rw [h]
  · exact .refl _
  · exact (setModule_measured hst ..).trans (rebalance_measured _)
  · exact causeChange_measured ..

theorem setChan_measured (c : Fin 25) (ch : Channel) (s : State) : Measured s (setChan c ch s) :=
  ⟨rfl, fun h => ⟨h, rfl⟩, fun _ h => ⟨h, rfl⟩⟩

/-- Channel `c`'s new live state and its FAULT record, before its trip flag is reported (R162). -/
def replaced (c : Fin 25) (ch : Channel) (e : Ev) : Ev :=
  reportFault c (e.st.meas.chans[c]).inFault ch.inFault (e.upd (setChan c ch))

section ChangeChan
variable (c : Fin 25) (ch : Channel) (e : Ev)

theorem changeChan_eq :
    changeChan c ch e = reportTrip c (e.st.meas.chans[c]).tripFlag ch.tripFlag (replaced c ch e) := rfl

@[simp] theorem replaced_st : (replaced c ch e).st = setChan c ch e.st := by
  rw [replaced, reportFault_st]; rfl

theorem replaced_measured : Measured e.st (replaced c ch e).st := by
  rw [replaced_st]; exact setChan_measured c ch e.st

theorem replaced_mods : (replaced c ch e).st.mods = e.st.mods := by
  rw [replaced_st]; rfl

theorem replaced_reaction : (replaced c ch e).reaction =
    ⟨e.st.ctl, e.st.arc.settle, e.out ++ faultDrafts c (e.st.meas.chans[c]).inFault ch.inFault⟩ := by
  rw [Ev.reaction, replaced_st, replaced, reportFault_out]; rfl

@[simp] theorem changeChan_meas :
    (changeChan c ch e).st.meas = { e.st.meas with chans := e.st.meas.chans.set c ch } := by
  simp [changeChan, setChan]

@[simp] theorem changeChan_mis : (changeChan c ch e).st.mis = e.st.mis := by
  simp [changeChan]

theorem changeChan_measured : Measured e.st (changeChan c ch e).st :=
  (replaced_measured c ch e).trans
    (reportTrip_measured c (e.st.meas.chans[c]).tripFlag ch.tripFlag (replaced c ch e))

end ChangeChan

/-- Only channels 0 to 15 feed the module supervisor (R22). -/
theorem changeChan_mods_system {c : Fin 25} (hc : 16 ≤ c.val) (ch : Channel) (e : Ev) :
    (changeChan c ch e).st.mods = e.st.mods := by
  have hi : c.val = 16 + (⟨c.val - 16, by omega⟩ : Fin 9).val := (Nat.add_sub_cancel' hc).symm
  simp [changeChan, reportTrip_system hi]

/-! ### The mismatch evaluator -/

@[simp] theorem changeMismatch_meas (m : Mismatch) (e : Ev) : (changeMismatch m e).st.meas = e.st.meas := by
  simp [changeMismatch]

@[simp] theorem changeMismatch_mis (m : Mismatch) (e : Ev) : (changeMismatch m e).st.mis = m := by
  simp [changeMismatch]

@[simp] theorem changeMismatch_mods (m : Mismatch) (e : Ev) : (changeMismatch m e).st.mods = e.st.mods := by
  simp [changeMismatch]

theorem setMismatch_measured (m : Mismatch) (s : State) : Measured s { s with mis := m } :=
  ⟨rfl, fun h => ⟨h, rfl⟩, fun _ h => ⟨h, rfl⟩⟩

theorem changeMismatch_measured (m : Mismatch) (e : Ev) : Measured e.st (changeMismatch m e).st :=
  (setMismatch_measured m e.st).trans
    (causeChange_measured .mismatch e.st.mis.flag m.flag (e.upd fun s => { s with mis := m }))

/-! ### An arrival -/

section Arrive
variable (c : Fin 25) (rails : Bool) (raw : Nat) (e : Ev)

/-- A sample replaces its channel's live state and no other's (R4). -/
@[simp] theorem arrive_meas : (arrive c rails raw e).st.meas = { e.st.meas with
    chans := e.st.meas.chans.set c (evalSample (e.st.chanCfg c) rails raw e.st.meas.chans[c]) } := by
  simp only [arrive]
  split <;> simp [evaluateMismatch]

theorem arrive_measured : Measured e.st (arrive c rails raw e).st := by
  simp only [arrive]
  split
  · exact (changeChan_measured ..).trans (changeMismatch_measured ..)
  · exact changeChan_measured ..

variable {c}

/-- Only channel 17's arrivals reach the mismatch evaluator (R28). -/
theorem arrive_of_ne (hc : c.val ≠ 17) : arrive c rails raw e =
    changeChan c (evalSample (e.st.chanCfg c) rails raw e.st.meas.chans[c]) e :=
  if_neg hc

theorem arrive_mis (hc : c.val ≠ 17) : (arrive c rails raw e).st.mis = e.st.mis := by
  rw [arrive_of_ne rails raw e hc, changeChan_mis]

theorem arrive_mods (hc : 16 ≤ c.val) : (arrive c rails raw e).st.mods = e.st.mods := by
  simp only [arrive]
  split <;> simp [evaluateMismatch, changeChan_mods_system hc]

end Arrive

/-! ### The end of a measurement event -/

/-- What an event that bears on a raw ceiling leaves before the arbiter's grants. -/
def ungranted (s : State) (e : Ev) : State := submitAll e.out (imageReact s.ceil (recompute e.st))

theorem concludeRaw_eq (s : State) (e : Ev) : concludeRaw s e = settle (ungranted s e) := rfl

@[simp] theorem ungranted_meas (s : State) (e : Ev) : (ungranted s e).meas = e.st.meas := rfl
@[simp] theorem ungranted_mis (s : State) (e : Ev) : (ungranted s e).mis = e.st.mis := rfl
@[simp] theorem ungranted_mods (s : State) (e : Ev) : (ungranted s e).mods = e.st.mods := rfl

/-- The ceilings are made of their inputs as the event leaves them. -/
theorem ungranted_ceilingsFollow (s : State) (e : Ev) :
    ceilingsFollow e.st.ceil.eSys e.st.ceil.eMod (ungranted s e) := by
  refine ⟨rfl, rfl, fun n => ?_, fun n => ?_⟩ <;>
    simp [ungranted, recompute, rawModule]

/-- As nothing is turned on, the effective ceilings that stand are those the event met. -/
theorem Measured.ceilingsFollow_of {s x t : State} (h : Measured s x)
    (hc : ceilingsFollow x.ceil.eSys x.ceil.eMod t) (hctl : t.ctl = x.ctl) (hmods : t.mods = x.mods) :
    ceilingsFollow s.ceil.eSys s.ceil.eMod t := by
  obtain ⟨hraw, hsys, hmraw, hmod⟩ := hc
  refine ⟨hraw, ?_, hmraw, fun n => ?_⟩
  · rw [hsys]
    split
    case isTrue hr => rw [(h.running (hctl ▸ hr)).2]
    case isFalse => rfl
  · rw [hmod n]
    split
    case isTrue hn => rw [(h.modules n (hmods ▸ hn)).2]
    case isFalse => rfl

/-- In a muted state E_sys is 0 (R50). -/
theorem ungranted_eSys {s : State} {e : Ev} (hr : e.st.ctl.state.running = false) :
    (ungranted s e).ceil.eSys = 0 := by
  simp [ungranted, recompute, hr]

section Ungranted
variable {s : State} {e : Ev} (h : Measured s e.st)
include h

theorem Measured.ungranted_ceilingsFollow : ceilingsFollow s.ceil.eSys s.ceil.eMod (ungranted s e) :=
  h.ceilingsFollow_of (Machine.ungranted_ceilingsFollow s e) rfl rfl

theorem Measured.ungranted_marksKept : Machine.marksKept s (ungranted s e) := h.marksKept

theorem Measured.ungranted_imageFollows : imageFollows s (ungranted s e) :=
  imageFollows_concluded h.image

theorem Measured.ungranted_submitted : submitted e.out s (ungranted s e) :=
  submitted_concluded h.pub rfl

/-- The event leaves the controller, the mute settle timer and its records as its reaction has them. -/
theorem Measured.ungranted_reacted : reacted e.reaction s (ungranted s e) :=
  ⟨rfl, h.arc, h.ungranted_submitted⟩

theorem Measured.ungranted_changesOnly :
    changesOnly [.meas, .mis, .mods, .ceil, .image, .arc, .ctl, .pub] s (ungranted s e) := by
  refine ⟨h.pending, fun b hb => ?_⟩
  cases b <;> simp at hb
  · exact ⟨h.resetHeld, h.resetKind, h.straps⟩
  · exact h.ms
  · exact h.shadow
  · exact h.loader
  · exact h.checker
  · exact h.link
  · exact h.stepped
  · exact h.port

end Ungranted

/-! ## The controller's reaction, case by case (sections 6.2 to 6.6) -/

section Reaction
variable (s : State) (m : Cause) (r : Reaction)

@[simp] theorem Reaction.member_same (b : Bool) : r.member s m b b = r := if_pos rfl

/-- In a running state a joining member other than MISMATCH leads to TRIPPED (R107, R120). -/
theorem Reaction.member_trips {m : Cause} {r : Reaction} (hm : m ≠ .mismatch)
    (hr : r.ctl.state = .restart ∨ r.ctl.state = .run) :
    r.member s m false true =
      { ctl := { r.ctl with state := .tripped, inhibit := true, causes := r.ctl.causes.put m true }
        settle := some 50
        out := r.out ++ [⟨.state, r.ctl.state.code, 5, memberCode m⟩] } := by
  simp [Reaction.member, hm, hr]

/-- In a running state MISMATCH adds an interruption first (R102, R104, R106). -/
theorem Reaction.member_interrupts {r : Reaction} (hr : r.ctl.state = .restart ∨ r.ctl.state = .run) :
    r.member s .mismatch false true =
      let forward := (s.meas.chans[16]).filtered
      let list := r.ctl.list ++ [⟨s.ms, .mismatch, forward⟩]
      let dst : CtlState := if s.param offLockoutCount ≤ list.length then .lockout else .tripped
      { ctl := { r.ctl with state := dst, inhibit := true, causes := r.ctl.causes.put .mismatch true,
                            list := list }
        settle := some 50
        out := r.out ++ [⟨.interruption, 5, signedWord forward, word list.length⟩,
          ⟨.state, r.ctl.state.code, dst.code, 7⟩] } := by
  simp [Reaction.member, hr, memberCode]

/-- Elsewhere, and at a member that leaves, only the set and in TRIPPED the recovery hold change (R110). -/
theorem Reaction.member_quiet {r : Reaction} {was now : Bool} (hne : was ≠ now)
    (h : ¬(now = true ∧ (r.ctl.state = .restart ∨ r.ctl.state = .run))) :
    r.member s m was now =
      { r with ctl := { r.ctl with
          causes := r.ctl.causes.put m now
          hold := if r.ctl.state = .tripped ∧ now = true then none
            else if r.ctl.state = .tripped ∧ (r.ctl.causes.put m now).isEmpty = true
              then some (s.param offSysHold * 100) else r.ctl.hold } } := by
  simp only [Reaction.member, hne, h, if_false]

end Reaction

/-! ## What each report hands to the controller -/

/-- Stored values as two states with one shadow read them. -/
theorem param_congr {s t : State} (h : t.shadow = s.shadow) (off : Nat) : t.param off = s.param off := by
  rw [State.param, State.param, word_congr h]

/-- A change of a trip cause in an event that met `s` and has moved measurement blocks only. -/
theorem Measured.causeChange_reaction {s : State} {e : Ev} (h : Measured s e.st) {m : Cause}
    (hf : m = .mismatch → (e.st.meas.chans[16]).filtered = (s.meas.chans[16]).filtered) (was now : Bool) :
    (causeChange m was now e).reaction = e.reaction.member s m was now :=
  Machine.causeChange_reaction m was now h.ms hf (param_congr h.shadow _) (param_congr h.shadow _)

/-- The owner of MISMATCH reports its new flag. -/
theorem Measured.changeMismatch_reaction {s : State} {e : Ev} (h : Measured s e.st)
    (hf : (e.st.meas.chans[16]).filtered = (s.meas.chans[16]).filtered) (m : Mismatch) :
    (changeMismatch m e).reaction = e.reaction.member s .mismatch e.st.mis.flag m.flag :=
  (h.trans (setMismatch_measured m e.st)).causeChange_reaction
    (e := e.upd (fun s => { s with mis := m })) (fun _ => hf) e.st.mis.flag m.flag

/-- The owner of MODULES reports its flag after a count. -/
theorem Measured.rebalance_reaction {s : State} {e : Ev} (h : Measured s e.st) :
    (rebalance e).reaction = e.reaction.member s .modules e.st.mods.flag (recount e.st.mods).flag :=
  (h.trans (recount_measured e.st)).causeChange_reaction
    (e := e.upd (fun s => { s with mods := recount s.mods })) (by simp)
    e.st.mods.flag (recount e.st.mods).flag

/-- A channel 16 to 24 hands on its FAULT record and then its trip flag (R23, R24). -/
theorem Measured.changeChan_reaction {s : State} {e : Ev} (h : Measured s e.st) {c : Fin 25} {i : Fin 9}
    (hc : c.val = 16 + i.val) (ch : Channel) :
    (changeChan c ch e).reaction = Reaction.member s (.chan i) (e.st.meas.chans[c]).tripFlag ch.tripFlag
      ⟨e.st.ctl, e.st.arc.settle, e.out ++ faultDrafts c (e.st.meas.chans[c]).inFault ch.inFault⟩ := by
  rw [changeChan_eq, reportTrip_system hc,
    (h.trans (replaced_measured c ch e)).causeChange_reaction (by simp), replaced_reaction]

/-- An arrival of a channel 16 to 24: its own trip flag, and at channel 17 then MISMATCH. -/
theorem arrive_reaction {c : Fin 25} {i : Fin 9} (hc : c.val = 16 + i.val) (rails : Bool) (raw : Nat)
    (e : Ev) :
    let old := e.st.meas.chans[c]
    let new := evalSample (e.st.chanCfg c) rails raw old
    (arrive c rails raw e).reaction =
      (Reaction.member e.st (.chan i) old.tripFlag new.tripFlag
        ⟨e.st.ctl, e.st.arc.settle, e.out ++ faultDrafts c old.inFault new.inFault⟩).member
          e.st .mismatch e.st.mis.flag (arrive c rails raw e).st.mis.flag := by
  intro old new
  by_cases h17 : c.val = 17
  · have hm := changeChan_measured c new e
    have hf : ((changeChan c new e).st.meas.chans[16]).filtered = (e.st.meas.chans[16]).filtered := by
      simp [h17]
    simp only [arrive, h17, if_true, evaluateMismatch, changeMismatch_mis]
    rw [hm.changeMismatch_reaction hf, (Measured.refl e.st).changeChan_reaction hc, changeChan_mis]
  · rw [arrive_of_ne rails raw e h17, changeChan_mis, Reaction.member_same,
      (Measured.refl e.st).changeChan_reaction hc]

/-! ## Arrivals and gates as commands -/

theorem exec_sampleArrival {c : Fin 25} {s : State} (hc : c.val < 24) (hr : s.resetHeld = false)
    (hl : s.loaded = true) (he : (s.chanCfg c).enable = true) (raw : BitVec 12) :
    exec (.sampleArrival c raw) s = .next (settle (ungranted s (arrive c true raw.toNat (Ev.of s)))) := by
  have : (s.sampling c && decide (c.val < 24)) = true := by simp [State.sampling, hr, hl, he, hc]
  show whenever _ _ _ = _
  rw [this]
  rfl

/-- R1: a sample that is not evaluated is discarded. -/
theorem exec_sampleArrival_discards {c : Fin 25} {s : State}
    (h : s.resetHeld = true ∨ s.loaded = false ∨ (s.chanCfg c).enable = false) (raw : BitVec 12) :
    exec (.sampleArrival c raw) s = .next s := by
  have : (s.sampling c && decide (c.val < 24)) = false := by
    rcases h with h | h | h <;> simp [State.sampling, h]
  show whenever _ _ _ = _
  rw [this]
  rfl

/-- The event of a flow gate that ends: the count starts again and so does the gate (R3). -/
def nextGate (s : State) : Ev := (Ev.of s).upd (fun s => startGate (setPulses 0 s))

theorem nextGate_measured (s : State) : Measured s (nextGate s).st :=
  ⟨rfl, fun h => ⟨h, rfl⟩, fun _ h => ⟨h, rfl⟩⟩

theorem exec_flowGateExpiry {s : State} (hr : s.resetHeld = false) (hg : s.meas.gate ≠ none) :
    exec .flowGateExpiry s = .next (if s.sampling 24
      then settle (ungranted s (arrive 24 false s.meas.pulses (nextGate s)))
      else conclude s (nextGate s)) := by
  have : (!s.resetHeld && s.meas.gate.isSome) = true := by
    simp [hr, Option.isSome_iff_ne_none, hg]
  show whenever _ _ _ = _
  rw [this]
  rfl

/-- Settles O8: an arrival is a measurement event, concluded with the ceilings computed from what it leaves. -/
theorem samplesOfEnabledChannelsAreEvaluated : Obligations.SamplesOfEnabledChannelsAreEvaluated := by
  refine ⟨fun c raw s _ h => exec_sampleArrival_discards h raw, fun c raw s hc hr hl he => ?_⟩
  have hm := arrive_measured c true raw.toNat (Ev.of s)
  exact ⟨_, exec_sampleArrival hc hr hl he raw, arrive_meas .., hm.ungranted_ceilingsFollow,
    hm.ungranted_marksKept, hm.ungranted_imageFollows, fun h => arrive_mis _ _ _ h,
    fun h => arrive_mods _ _ _ h, hm.arc, hm.ungranted_changesOnly⟩

/-- Settles O15: the gate starts again first, and where channel 24 is enabled an arrival of the count follows. -/
theorem flowPulsesAndGates : Obligations.FlowPulsesAndGates := by
  refine ⟨⟨fun micros s => ⟨fun hr hl hm => ?_, fun h => ?_⟩, fun k s => ⟨_, rfl, rfl⟩⟩,
    fun s hr hg => ⟨fun h => ?_, fun he hl => ?_⟩⟩
  · have hcount : min 65535 (s.meas.pulses + 1) =
        if s.meas.pulses < 65535 then s.meas.pulses + 1 else 65535 := by
      split <;> omega
    simp [exec, execFlowPulse, hr, hl, hm, setPulses, hcount]
  · have : (!s.resetHeld && s.loaded && decide (10 ≤ micros)) = false := by
      rcases h with h | h <;> simp [h]
    simp [exec, execFlowPulse, this]
  · have hsampling : s.sampling 24 = false := by
      rcases h with h | h <;> simp [State.sampling, h]
    rw [exec_flowGateExpiry hr hg, hsampling, if_neg Bool.false_ne_true,
      conclude_quiet (b := s) (e := nextGate s) rfl fun _ => rfl]
    rfl
  · have hsampling : s.sampling 24 = true := by simp [State.sampling, hr, hl, he]
    have hm := (nextGate_measured s).trans (arrive_measured 24 false s.meas.pulses (nextGate s))
    have hkept := hm.ungranted_changesOnly
    refine ⟨_, by rw [exec_flowGateExpiry hr hg, if_pos hsampling], arrive_meas ..,
      hm.ungranted_ceilingsFollow, hm.ungranted_marksKept, hm.ungranted_imageFollows, hm.arc, hkept.1,
      fun b hb => ?_⟩
    by_cases hmis : b = .mis
    · subst hmis
      exact (ungranted_mis s _).trans (arrive_mis false s.meas.pulses (nextGate s) (by decide))
    by_cases hmods : b = .mods
    · subst hmods
      exact (ungranted_mods s _).trans (arrive_mods false s.meas.pulses (nextGate s) (by decide))
    · exact hkept.2 b (by simp_all)

/-! ## System channels (R23, R24) -/

/-- The reaction reads the counter, the channels and two parameters alone. -/
theorem Reaction.member_congr {s t : State} (hms : t.ms = s.ms) (hc : t.meas.chans = s.meas.chans)
    (hl : t.param offLockoutCount = s.param offLockoutCount)
    (hh : t.param offSysHold = s.param offSysHold) : Reaction.member t = Reaction.member s := by
  funext m was now r
  simp only [Reaction.member, hms, hc, hl, hh]

/-- The event of a sample of an enabled channel 16 to 24, by whichever command it comes. -/
theorem systemArrival {cmd : Instr} {c : Fin 25} {i : Fin 9} {new : Channel} {s : State}
    (hc : c.val = 16 + i.val) (hr : s.resetHeld = false) (hl : s.loaded = true)
    (he : (s.chanCfg c).enable = true)
    (hcmd : (∃ raw : BitVec 12, c.val < 24 ∧ cmd = .sampleArrival c raw ∧
        new = evalSample (s.chanCfg c) true raw.toNat s.meas.chans[c]) ∨
      (c = 24 ∧ cmd = .flowGateExpiry ∧ s.meas.gate ≠ none ∧
        new = evalSample (s.chanCfg c) false s.meas.pulses s.meas.chans[c])) :
    ∃ e : Ev, exec cmd s = .next (settle (ungranted s e)) ∧ Measured s e.st ∧
      e.st.meas.chans = s.meas.chans.set c new ∧ (c.val ≠ 17 → e.st.mis = s.mis) ∧
      e.reaction = (Reaction.member s (.chan i) (s.meas.chans[c]).tripFlag new.tripFlag
        ⟨s.ctl, s.arc.settle, faultDrafts c (s.meas.chans[c]).inFault new.inFault⟩).member
          s .mismatch s.mis.flag e.st.mis.flag := by
  rcases hcmd with ⟨raw, hc24, rfl, rfl⟩ | ⟨rfl, rfl, hg, rfl⟩
  · exact ⟨_, exec_sampleArrival hc24 hr hl he raw, arrive_measured c true raw.toNat (Ev.of s),
      by rw [arrive_meas]; rfl, arrive_mis true raw.toNat (Ev.of s),
      arrive_reaction hc true raw.toNat (Ev.of s)⟩
  · have hsampling : s.sampling 24 = true := by simp [State.sampling, hr, hl, he]
    have hmis := arrive_mis (c := 24) false s.meas.pulses (nextGate s)
    have hre := arrive_reaction hc false s.meas.pulses (nextGate s)
    rw [Reaction.member_congr (s := s) (t := (nextGate s).st) rfl rfl rfl rfl] at hre
    exact ⟨_, by rw [exec_flowGateExpiry hr hg, if_pos hsampling],
      (nextGate_measured s).trans (arrive_measured 24 false s.meas.pulses (nextGate s)),
      by rw [arrive_meas]; rfl, hmis, hre⟩

/-- Settles O14: with MISMATCH unchanged the reaction to the channel's own member is all there is. -/
theorem systemChannelTripsReachTheController : Obligations.SystemChannelTripsReachTheController := by
  intro cmd c i new s hc hr hl he hcmd old causes fault running
  obtain ⟨e, hexec, hm, hchans, hmis, hre⟩ := systemArrival hc hr hl he hcmd
  refine ⟨_, hexec, hchans, hmis, fun hflag => ?_⟩
  have hreacted := hm.ungranted_reacted
  rw [hre, show e.st.mis.flag = s.mis.flag from hflag, Reaction.member_same] at hreacted
  refine ⟨fun hsame => ?_, fun hwas hnow hrun => ?_, fun hne hquiet => ?_⟩
  · rw [show new.tripFlag = (s.meas.chans[c]).tripFlag from hsame, Reaction.member_same] at hreacted
    exact hreacted
  · rw [show (s.meas.chans[c]).tripFlag = false from hwas, hnow,
      Reaction.member_trips s (by simp) hrun] at hreacted
    obtain ⟨hctl, harc, hsub⟩ := hreacted
    have hmuted : e.st.ctl.state.running = false := by
      rw [show e.st.ctl = _ from hctl]; rfl
    exact ⟨by rw [hctl, ← hnow], ungranted_eSys hmuted, harc, hsub⟩
  · rw [Reaction.member_quiet s _ (Ne.symm hne) hquiet] at hreacted
    exact hreacted

/-- What an evaluation reads depends on the shadow and the channels alone. -/
theorem mismatchInput_congr {s t : State} (hs : t.shadow = s.shadow) (hm : t.meas = s.meas) :
    t.mismatchInput = s.mismatchInput := by
  simp only [State.mismatchInput, State.chanCfg, State.param, word_congr hs, hm]

/-- The evaluation at channel 17 reads both channels as the event leaves them (R23, R28). -/
theorem arrive_evaluates (rails : Bool) (raw : Nat) (s : State) :
    let t := ungranted s (arrive 17 rails raw (Ev.of s))
    t.mis = evalMismatch t.mismatchInput s.mis := by
  intro t
  let e := changeChan 17 (evalSample (s.chanCfg 17) rails raw s.meas.chans[17]) (Ev.of s)
  have ht : t = ungranted s (evaluateMismatch e) := rfl
  have hinput : t.mismatchInput = e.st.mismatchInput := by
    have hm := changeMismatch_measured (evalMismatch e.st.mismatchInput e.st.mis) e
    rw [ht]
    exact mismatchInput_congr hm.shadow (changeMismatch_meas _ e)
  have hmis : e.st.mis = s.mis := changeChan_mis ..
  rw [hinput, ← hmis, ht]
  exact changeMismatch_mis _ e

/-- Settles O18: the two reactions one after the other; with channel 17's flag unchanged only that to
MISMATCH is left. -/
theorem channel17ArrivalsEvaluateMismatch : Obligations.Channel17ArrivalsEvaluateMismatch := by
  intro raw s hr hl he old new fault running met
  let e := arrive 17 true raw.toNat (Ev.of s)
  have hm : Measured s e.st := arrive_measured 17 true raw.toNat (Ev.of s)
  have hre : e.reaction = (met.member s (.chan 1) old.tripFlag new.tripFlag).member s .mismatch
      s.mis.flag e.st.mis.flag := arrive_reaction (i := 1) rfl true raw.toNat (Ev.of s)
  have hreacted := hm.ungranted_reacted
  rw [hre] at hreacted
  refine ⟨ungranted s e, exec_sampleArrival (by decide) hr hl he raw, arrive_evaluates true raw.toNat s,
    hreacted, ungranted_eSys, fun hsame hwas hnow => ?_, fun hsame hwas hnow => ?_⟩
  · rw [hsame, Reaction.member_same, hwas, show e.st.mis.flag = true from hnow] at hreacted
    refine ⟨fun hrun => ?_, fun hmuted => ?_⟩
    · rw [Reaction.member_interrupts s hrun] at hreacted
      obtain ⟨hctl, harc, hsub⟩ := hreacted
      refine ⟨hctl, ungranted_eSys ?_, harc, hsub⟩
      rw [show e.st.ctl = _ from hctl]
      dsimp only
      split <;> rfl
    · rw [Reaction.member_quiet s _ (by decide) (fun h => hmuted h.2)] at hreacted
      obtain ⟨hctl, harc, hsub⟩ := hreacted
      refine ⟨?_, harc, hsub⟩
      rw [hctl]
      by_cases htripped : s.ctl.state = .tripped <;> simp [met, htripped]
  · rw [hsame, Reaction.member_same, hwas, show e.st.mis.flag = false from hnow,
      Reaction.member_quiet s _ (by decide) (by simp)] at hreacted
    obtain ⟨hctl, harc, hsub⟩ := hreacted
    refine ⟨?_, harc, hsub⟩
    rw [hctl]
    simp [met]

/-! ## Modules (R22, R37, R38, R41, R42) -/

/-- The other channel of the module that channel `c` feeds (R22). -/
def fellow (c : Fin 25) : Fin 25 := ⟨(c.val + 8) % 16, by omega⟩

/-- The trip condition of a module whose channel `c` has just been replaced. -/
theorem moduleTripped_setChan {c : Fin 25} (hc : c.val < 16) (ch : Channel) (s : State) :
    (setChan c ch s).moduleTripped (moduleOf c) =
      (ch.tripFlag || (s.meas.chans[fellow c]).tripFlag) := by
  rcases Nat.lt_or_ge c.val 8 with h | h
  · have hn : (moduleOf c).val = c.val := Nat.mod_eq_of_lt h
    have hd : (fellow c).val = 8 + c.val := by simp only [fellow]; omega
    have hne : c.val ≠ 8 + c.val := by omega
    simp [State.moduleTripped, setChan, hn, hd, Vector.getElem_set_ne _ _ hne]
  · have hn : (moduleOf c).val = c.val - 8 := by simp only [moduleOf]; omega
    have hc8 : 8 + (c.val - 8) = c.val := by omega
    have hd : (fellow c).val = c.val - 8 := by simp only [fellow]; omega
    have hne : c.val ≠ c.val - 8 := by omega
    simp [State.moduleTripped, setChan, hn, hd, hc8, Vector.getElem_set_ne _ _ hne, Bool.or_comm]

section ChangeChan
variable {c : Fin 25} {ch : Channel} {e : Ev} (hc : c.val < 16)
include hc

/-- R37: the trip condition appears on a module in ON or RECOVERING. -/
theorem changeChan_trips (hwas : (e.st.meas.chans[c]).tripFlag = false) (hnow : ch.tripFlag = true)
    (hst : (e.st.mods.mods[moduleOf c]).state = .on ∨ (e.st.mods.mods[moduleOf c]).state = .recovering) :
    changeChan c ch e = rebalance (setModule (moduleOf c) .off none (word c.val) (replaced c ch e)) := by
  rw [changeChan_eq, hwas, hnow, reportTrip_module hc (by decide), if_pos rfl,
    moduleTripSet_moves (by simpa using hst)]

/-- R38: the trip condition ends on a module in OFF. -/
theorem changeChan_recovers (hwas : (e.st.meas.chans[c]).tripFlag = true) (hnow : ch.tripFlag = false)
    (hd : (e.st.meas.chans[fellow c]).tripFlag = false) (hst : (e.st.mods.mods[moduleOf c]).state = .off) :
    changeChan c ch e = rebalance (setModule (moduleOf c) .recovering (some e.st.modHoldLength)
      (word c.val) (replaced c ch e)) := by
  have htripped : (replaced c ch e).st.moduleTripped (moduleOf c) = false := by
    rw [replaced_st, moduleTripped_setChan hc, hnow, hd]; rfl
  have hlength : (replaced c ch e).st.modHoldLength = e.st.modHoldLength := by
    rw [replaced_st]; rfl
  rw [changeChan_eq, hwas, hnow, reportTrip_module hc (by decide), if_neg (by decide),
    moduleTripClear_moves htripped (by simpa using hst), hlength]

/-- Nothing else moves a module (R37, R38). -/
theorem changeChan_keeps
    (h : ch.tripFlag = (e.st.meas.chans[c]).tripFlag ∨ (e.st.mods.mods[moduleOf c]).state = .absent ∨
      (ch.tripFlag = true ∧ (e.st.mods.mods[moduleOf c]).state = .off) ∨
      (ch.tripFlag = false ∧ ((e.st.meas.chans[fellow c]).tripFlag = true ∨
        (e.st.mods.mods[moduleOf c]).state = .on ∨ (e.st.mods.mods[moduleOf c]).state = .recovering))) :
    changeChan c ch e = replaced c ch e := by
  rw [changeChan_eq]
  by_cases hsame : (e.st.meas.chans[c]).tripFlag = ch.tripFlag
  · rw [reportTrip, if_pos hsame]
  rw [reportTrip_module hc hsame]
  split
  case isTrue hnow =>
    apply moduleTripSet_keeps
    rw [replaced_st]
    rcases h with h | h | ⟨-, h⟩ | ⟨h, -⟩
    · exact absurd h.symm hsame
    · exact .inr h
    · exact .inl h
    · rw [hnow] at h; cases h
  case isFalse hnow =>
    apply moduleTripClear_keeps
    rw [replaced_st, moduleTripped_setChan hc]
    rcases h with h | h | ⟨h, -⟩ | ⟨-, h | h | h⟩
    · exact absurd h.symm hsame
    · exact .inr (ne_of_eq_of_ne h (by decide))
    · exact absurd h hnow
    · exact .inl (by rw [h, Bool.or_true])
    · exact .inr (ne_of_eq_of_ne h (by decide))
    · exact .inr (ne_of_eq_of_ne h (by decide))

end ChangeChan

/-- A module's move, the count after it, and MODULES reported to the controller (R41, R42, R101). -/
theorem changeChan_moves {c : Fin 25} {ch : Channel} {e : Ev} {st : ModState} {hold : Timer}
    (hst : st ≠ .on)
    (h : changeChan c ch e = rebalance (setModule (moduleOf c) st hold (word c.val) (replaced c ch e))) :
    (changeChan c ch e).st.mods =
      recount { e.st.mods with mods := e.st.mods.mods.set (moduleOf c) ⟨st, hold⟩ } ∧
    (changeChan c ch e).reaction =
      Reaction.member e.st .modules e.st.mods.flag (changeChan c ch e).st.mods.flag
        ⟨e.st.ctl, e.st.arc.settle, e.out ++ faultDrafts c (e.st.meas.chans[c]).inFault ch.inFault ++
          [⟨.module, word (moduleOf c).val, st.code, word c.val⟩]⟩ := by
  let moved := setModule (moduleOf c) st hold (word c.val) (replaced c ch e)
  have hm : Measured e.st moved.st :=
    (replaced_measured c ch e).trans
      (setModule_measured hst (moduleOf c) hold (word c.val) (replaced c ch e))
  have hmods : moved.st.mods = { e.st.mods with mods := e.st.mods.mods.set (moduleOf c) ⟨st, hold⟩ } := by
    simp only [moved, setModule, Ev.draft_st, Ev.upd_st, replaced_st]; rfl
  have hbefore : moved.reaction = ⟨e.st.ctl, e.st.arc.settle, e.out ++
      faultDrafts c (e.st.meas.chans[c]).inFault ch.inFault ++
        [⟨.module, word (moduleOf c).val, st.code, word c.val⟩]⟩ := by
    have hr := replaced_reaction c ch e
    simp only [Ev.reaction, Reaction.mk.injEq] at hr ⊢
    obtain ⟨hctl, hsettle, hout⟩ := hr
    exact ⟨hctl, hsettle, by rw [← hout]; rfl⟩
  rw [h]
  refine ⟨by rw [rebalance_mods, hmods], ?_⟩
  rw [hm.rebalance_reaction, rebalance_mods, hbefore, hmods]

/-- A module that is not in ON has both its ceilings at 0 (R49, R56). -/
theorem ceilingsFollow_off {eSys : Nat} {eMod : Vector Nat 8} {t : State} (h : ceilingsFollow eSys eMod t)
    {n : Fin 8} (hn : (t.mods.mods[n]).state ≠ .on) : t.ceil.mRaw[n] = 0 ∧ t.ceil.eMod[n] = 0 := by
  obtain ⟨-, -, hraw, hmod⟩ := h
  exact ⟨by rw [hraw, rawModule, if_neg hn], by rw [hmod, if_neg hn]⟩

/-- What the reaction to MODULES is where it does not change and where it joins in a running state. -/
theorem reacted_modules {s t : State} {drafts : List Draft}
    (h : reacted (Reaction.member s .modules s.mods.flag t.mods.flag ⟨s.ctl, s.arc.settle, drafts⟩) s t)
    (hmuted : t.ctl.state.running = false → t.ceil.eSys = 0) :
    (t.mods.flag = s.mods.flag → t.ctl = s.ctl ∧ t.arc = s.arc ∧ submitted drafts s t) ∧
    (s.mods.flag = false → t.mods.flag = true → s.ctl.state = .restart ∨ s.ctl.state = .run →
      t.ctl = { s.ctl with
        state := .tripped, inhibit := true, causes := s.ctl.causes.put .modules true } ∧
      t.ceil.eSys = 0 ∧ t.arc = { s.arc with settle := some 50 } ∧
      submitted (drafts ++ [⟨.state, s.ctl.state.code, 5, 17⟩]) s t) := by
  refine ⟨fun hsame => ?_, fun hwas hnow hrun => ?_⟩
  · rw [hsame, Reaction.member_same] at h
    exact h
  · rw [hwas, hnow, Reaction.member_trips s (by simp) hrun] at h
    obtain ⟨hctl, harc, hsub⟩ := h
    exact ⟨hctl, hmuted (by rw [hctl]; rfl), harc, hsub⟩

/-- Settles O19: the three cases are `changeChan_trips`, `changeChan_recovers` and `changeChan_keeps`. -/
theorem moduleTripConditions : Obligations.ModuleTripConditions := by
  intro c d n raw s hcd hr hl he old new st moved fault running
  have hc : c.val < 16 := by omega
  obtain rfl : n = moduleOf c := Fin.ext (by simp only [moduleOf]; omega)
  obtain rfl : d = fellow c := Fin.ext (by simp only [fellow]; simp only [moduleOf] at hcd; omega)
  let e := changeChan c new (Ev.of s)
  have harrive : arrive c true raw.toNat (Ev.of s) = e := arrive_of_ne true raw.toNat (Ev.of s) (by omega)
  have hm : Measured s e.st := changeChan_measured c new (Ev.of s)
  have hceil := hm.ungranted_ceilingsFollow
  have hreacted := hm.ungranted_reacted
  refine ⟨ungranted s e, by rw [exec_sampleArrival (by omega) hr hl he, harrive], ?_⟩
  intro told
  have htold {mst : ModState} {hold : Timer} (hst : mst ≠ .on) (h : e = rebalance
      (setModule (moduleOf c) mst hold (word c.val) (replaced c new (Ev.of s)))) :
      (ungranted s e).mods = moved ⟨mst, hold⟩ ∧ told mst.code := by
    obtain ⟨hmods, hre⟩ := changeChan_moves hst h
    rw [show e.reaction = _ from hre] at hreacted
    exact ⟨hmods, hreacted, reacted_modules hreacted ungranted_eSys⟩
  refine ⟨fun hwas hnow hst => ?_, fun hwas hnow hd hst => ?_, fun hkeep => ?_⟩
  · obtain ⟨hmods, ht⟩ := htold (by decide) (changeChan_trips hc hwas hnow hst)
    have hoff : ((ungranted s e).mods.mods[moduleOf c]).state ≠ .on := by
      rw [hmods]; simp [moved, recount]
    obtain ⟨hraw, heff⟩ := ceilingsFollow_off hceil hoff
    exact ⟨hmods, hraw, heff, ht⟩
  · exact htold (by decide) (changeChan_recovers hc hwas hnow hd hst)
  · have h : e = replaced c new (Ev.of s) := changeChan_keeps hc hkeep
    rw [h, replaced_reaction] at hreacted
    rw [h]
    exact ⟨replaced_mods c new (Ev.of s), hreacted⟩

/-! ## Words of a channel's record (sections 1.8 and 9.2) -/

theorem offChannel_bounds (h : Fin 25) (k : Fin 8) :
    0x05A ≤ offChannel h.val k.val ∧ offChannel h.val k.val ≤ 0x121 := by
  unfold offChannel; omega

/-- R151: the validated word 0 of a channel's record. -/
theorem validChannel_zero (w : Word) :
    validChannel 0 w = if field w 5 4 = 0 then (w &&& 0x01FF) ||| 0x0020 else w &&& 0x01FF := by
  have hfield : chanPers (w &&& 0x01FF) = field w 5 4 := by
    simp only [chanPers, field]
    have : (w &&& 0x01FF).toNat = w.toNat % 512 := by
      rw [BitVec.toNat_and]; exact Nat.and_two_pow_sub_one_eq_mod w.toNat 9
    omega
  simp only [validChannel, hfield]

/-- R150: saturation to an upper limit. -/
theorem saturate_zero {hi : Nat} (hhi : hi ≤ 65535) (w : Word) :
    saturate 0 hi w = word (min hi w.toNat) := by
  apply BitVec.eq_of_toNat_eq
  have := w.isLt
  unfold saturate word
  split
  · omega
  · split <;> simp only [BitVec.toNat_ofNat] <;> omega

/-- R149: a channel word is taken with its validated value, whatever state it meets. -/
theorem treat_channel (s : State) (h : Fin 25) (k : Fin 8) (w : Word) :
    treat s (.channel h k) w =
      ((applyConfig s (.channel h k) (offChannel h.val k.val) (validChannel k.val w) (Ev.of s)).upd
          startSweep,
        .forward (validChannel k.val w) .hostWrite) := rfl

/-- The event of a stored channel word, before the blocks act on it. -/
def channelStored (s : State) (h : Fin 25) (k : Fin 8) (v : Word) : Ev :=
  (Ev.of s).upd fun s => s.store (offChannel h.val k.val) v

/-- A parameter is no channel word. -/
theorem param_channelStored {s : State} {h : Fin 25} {k : Fin 8} {v : Word} {off : Nat} (h1 : 1 ≤ off)
    (h2 : off < 0x05A) : (channelStored s h k v).st.param off = s.param off := by
  obtain ⟨hlo, hhi⟩ := offChannel_bounds h k
  have hne : off ≠ offChannel h.val k.val := by omega
  rw [State.param, State.param]
  exact congrArg _ ((word_store v (by omega) hhi h1).trans (if_neg hne))

/-- A word of the record other than word 0 leaves the enable bit. -/
theorem enable_channelStored {s : State} {h : Fin 25} {k : Fin 8} (hk : k ≠ 0) (v : Word) :
    ((channelStored s h k v).st.chanCfg h).enable = (s.chanCfg h).enable := by
  obtain ⟨hlo, hhi⟩ := offChannel_bounds h k
  have hk' : k.val ≠ 0 := fun h => hk (Fin.ext h)
  have hne : offChannel h.val 0 ≠ offChannel h.val k.val := by simp only [offChannel]; omega
  have hpos : 1 ≤ offChannel h.val 0 := by simp only [offChannel]; omega
  exact congrArg chanEnable ((word_store v (by omega) hhi hpos).trans (if_neg hne))

/-- The settings a stored word 0 gives. -/
theorem chanCfg_channelStored (s : State) (h : Fin 25) (v : Word) :
    let cfg := (channelStored s h 0 v).st.chanCfg h
    cfg.enable = bit v 0 ∧ cfg.low = bit v 1 ∧ cfg.pers = field v 5 4 := by
  obtain ⟨hlo, hhi⟩ := offChannel_bounds h 0
  have hword : (channelStored s h 0 v).st.word (offChannel h.val 0) = v :=
    (wordStored_store v (by omega) hhi).1
  exact ⟨congrArg chanEnable hword, congrArg chanLow hword, congrArg chanPers hword⟩

/-! ### What the measurement unit does with a stored word -/

section Word0
variable {c : Fin 25} {old : ChanCfg} {e : Ev}

/-- R17. -/
theorem applyChannelWord0_starts (ho : old.enable = false) (hn : (e.st.chanCfg c).enable = true) :
    applyChannelWord0 c old e = e.upd (setChan c (startChannel (e.st.meas.chans[c]))) := by
  simp only [applyChannelWord0, ho, hn]; rfl

/-- R18, R29. -/
theorem applyChannelWord0_stops (ho : old.enable = true) (hn : (e.st.chanCfg c).enable = false) :
    applyChannelWord0 c old e =
      if c.val = 16 ∨ c.val = 17 then
        changeMismatch (notComputed 4096) (changeChan c (stopChannel (e.st.meas.chans[c])) e)
      else changeChan c (stopChannel (e.st.meas.chans[c])) e := by
  simp only [applyChannelWord0, ho, hn]; rfl

/-- R19, R20. -/
theorem applyChannelWord0_retunes (ho : old.enable = true) (hn : (e.st.chanCfg c).enable = true) :
    applyChannelWord0 c old e =
      e.upd (setChan c (retuneChannel old (e.st.chanCfg c) (e.st.meas.chans[c]))) := by
  simp only [applyChannelWord0, ho, hn]; rfl

/-- A channel that stays disabled is left alone. -/
theorem applyChannelWord0_keeps (ho : old.enable = false) (hn : (e.st.chanCfg c).enable = false) :
    applyChannelWord0 c old e = e := by
  simp only [applyChannelWord0, ho, hn]; rfl

end Word0

theorem applyChannelWord0_measured (c : Fin 25) (old : ChanCfg) (e : Ev) :
    Measured e.st (applyChannelWord0 c old e).st := by
  cases ho : old.enable <;> cases hn : (e.st.chanCfg c).enable
  · rw [applyChannelWord0_keeps ho hn]; exact .refl _
  · rw [applyChannelWord0_starts ho hn]; exact setChan_measured ..
  · rw [applyChannelWord0_stops ho hn]
    split
    · exact (changeChan_measured ..).trans (changeMismatch_measured ..)
    · exact changeChan_measured ..
  · rw [applyChannelWord0_retunes ho hn]; exact setChan_measured ..

/-- The pulse count and the gate are no channel's. -/
theorem applyChannelWord0_flow (c : Fin 25) (old : ChanCfg) (e : Ev) :
    (applyChannelWord0 c old e).st.meas.pulses = e.st.meas.pulses ∧
      (applyChannelWord0 c old e).st.meas.gate = e.st.meas.gate := by
  cases ho : old.enable <;> cases hn : (e.st.chanCfg c).enable
  · rw [applyChannelWord0_keeps ho hn]; exact ⟨rfl, rfl⟩
  · rw [applyChannelWord0_starts ho hn]; exact ⟨rfl, rfl⟩
  · rw [applyChannelWord0_stops ho hn]
    split
    · rw [changeMismatch_meas, changeChan_meas]; exact ⟨rfl, rfl⟩
    · rw [changeChan_meas]; exact ⟨rfl, rfl⟩
  · rw [applyChannelWord0_retunes ho hn]; exact ⟨rfl, rfl⟩

theorem applyFoldSetting_measured (c : Fin 25) (e : Ev) : Measured e.st (applyFoldSetting c e).st := by
  simp only [applyFoldSetting]
  split
  · exact setChan_measured ..
  · exact .refl _

/-! ### The handoff of a channel word -/

/-- What the handoff of a channel word of value `w` at address `a` leaves, `x` being the event of the
blocks the validated word `v` bears on (R44, R149). -/
structure Taken (s t : State) (a w : Word) (h : Fin 25) (k : Fin 8) (v : Word) (x : Ev) : Prop where
  shadow : t.shadow = (channelStored s h k v).st.shadow
  sweep : sweepStarted s t
  forward : forwarded s t a w v .hostWrite
  meas : t.meas = x.st.meas
  mis : t.mis = x.st.mis
  mods : t.mods = x.st.mods
  react : reacted x.reaction s t
  ceilings : ceilingsFollow s.ceil.eSys s.ceil.eMod t
  marks : marksKept s t
  image : imageFollows s t
  frame : changesOnly [.shadow, .checker, .meas, .mis, .mods, .ceil, .image, .arc, .ctl, .port, .link,
    .pub] s t

section Handoff
variable {kind : State → Word → Word → Bool} {s : State} {a w : Word} {h : Fin 25} {k : Fin 8}

/-- A stored shadow is a stored word. -/
theorem wordStored_channel {t : State} {v : Word} (hs : t.shadow = (channelStored s h k v).st.shadow) :
    wordStored (offChannel h.val k.val) v s t := by
  obtain ⟨hlo, hhi⟩ := offChannel_bounds h k
  obtain ⟨hv, hrest⟩ := wordStored_store (s := s) v (by omega) hhi
  exact ⟨(word_congr hs _).trans hv, fun j hj hne => (word_congr hs j).trans (hrest j hj hne)⟩

/-- The handoff of a word that bears on a raw ceiling. -/
theorem handoff_channel {x : Ev} (hw : s.handoffWord = some (a, w)) (hk : kind s a w = true)
    (ht : s.target a = .channel h k)
    (happly : applyConfig s (.channel h k) (offChannel h.val k.val) (validChannel k.val w) (Ev.of s) =
      x.upd recompute)
    (hm : Measured (channelStored s h k (validChannel k.val w)).st x.st) :
    ∃ t, handoffOf kind s = .next t ∧ Taken s t a w h k (validChannel k.val w) x := by
  have htreat : treat s (s.target a) w =
      ((x.upd recompute).upd startSweep, .forward (validChannel k.val w) .hostWrite) := by
    rw [ht, treat_channel, happly]
  have hframe : x.st = { s with
      shadow := x.st.shadow, meas := x.st.meas, mis := x.st.mis, mods := x.st.mods, ceil := x.st.ceil,
      arc := x.st.arc, ctl := x.st.ctl } := by
    rw [hm.frame]; rfl
  obtain ⟨t, hexec, hshadow, hsweep, hforward, hmeas, hmis, hmods, hctl, harc, hsub, hceil, hmarks,
    himage, hchanges⟩ := handoff_raw hw hk htreat hframe hm.marksKept
  exact ⟨t, hexec, hshadow.trans hm.shadow, hsweep, hforward, hmeas, hmis, hmods,
    ⟨hctl, harc.trans hm.arc, hsub⟩, hm.ceilingsFollow_of hceil hctl hmods, hmarks, himage, hchanges⟩

/-- The handoff of a word that acts from the next sample only (R20, R21). -/
theorem handoff_channel_later (hw : s.handoffWord = some (a, w)) (hk : kind s a w = true)
    (ht : s.target a = .channel h k) (hlater : k = 1 ∨ k = 2 ∨ k = 5 ∨ k = 6) :
    ∃ t, handoffOf kind s = .next t ∧
      justStored (offChannel h.val k.val) a w (validChannel k.val w) s t := by
  have happly : applyConfig s (.channel h k) (offChannel h.val k.val) (validChannel k.val w) (Ev.of s) =
      channelStored s h k (validChannel k.val w) := by
    rcases hlater with rfl | rfl | rfl | rfl <;> rfl
  refine ⟨_, handoff_forward hw hk (by rw [ht, treat_channel, happly]), wordStored_channel ?_, ?_, ?_, ?_⟩
  · simp [channelStored]
  · simp [sweepStarted, startSweep, offFirstCovered, channelStored]
  · exact forwarded_of (by simp [channelStored]) (by simp [channelStored])
  · rw [imageReact_of_ceil (by simp [channelStored])]
    refine ⟨by simp [channelStored], fun b hb => ?_⟩
    cases b <;> simp at hb <;> simp [sameBlock, channelStored]

end Handoff

/-- Where the blocks do nothing with the controller, the mismatch evaluator and the modules, nothing of
them, of the arc monitor and of the records changes. -/
theorem Taken.quiet {s t : State} {a w : Word} {h : Fin 25} {k : Fin 8} {v : Word} {x : Ev}
    (ht : Taken s t a w h k v x) (hmis : x.st.mis = s.mis) (hmods : x.st.mods = s.mods)
    (hre : x.reaction = ⟨s.ctl, s.arc.settle, []⟩) :
    t.mis = s.mis ∧ t.mods = s.mods ∧ t.ctl = s.ctl ∧ t.arc = s.arc ∧ t.pub = s.pub := by
  obtain ⟨hctl, harc, hsub⟩ := ht.react
  rw [hre] at hctl harc hsub
  exact ⟨ht.mis.trans hmis, ht.mods.trans hmods, hctl, harc, hsub⟩

theorem chanCfg_congr {s t : State} (h : t.shadow = s.shadow) (c : Fin 25) : t.chanCfg c = s.chanCfg c := by
  simp only [State.chanCfg, word_congr h]

/-- Fold settings act at once, on an enabled channel (R19). -/
theorem applyFoldSetting_cases (c : Fin 25) (e : Ev) :
    applyFoldSetting c e = if (e.st.chanCfg c).enable = true
      then e.upd (setChan c (refactor (e.st.chanCfg c) (e.st.meas.chans[c]))) else e := rfl

/-- R151: the validated words 3, 4 and 7. -/
theorem validChannel_fold {k : Fin 8} (hk : k = 3 ∨ k = 4 ∨ k = 7) (w : Word) :
    validChannel k.val w = if k = 7 then word (min 4096 w.toNat) else w := by
  rcases hk with rfl | rfl | rfl
  · rfl
  · rfl
  · exact saturate_zero (by decide) w

/-- Settles O44: fold settings by `handoff_channel`, the others by `handoff_channel_later`. -/
theorem channelSettingWrites : Obligations.ChannelSettingWrites := by
  intro s a w h k hw ht off
  refine ⟨fun hk => ?_, fun hk => ?_, fun hk => ?_, fun hk => ?_⟩
  · intro v x
    have hv : validChannel k.val w = v := validChannel_fold hk w
    have hrow : isTarget (isChannelWord [3, 4, 7]) s a w = true := by
      rw [isTarget, ht]; rcases hk with rfl | rfl | rfl <;> rfl
    have hk0 : k ≠ 0 := by rcases hk with rfl | rfl | rfl <;> decide
    obtain ⟨t, hexec, htaken⟩ := handoff_channel
      (x := applyFoldSetting h (channelStored s h k (validChannel k.val w))) hw hrow ht
      (by rcases hk with rfl | rfl | rfl <;> rfl) (applyFoldSetting_measured h _)
    rw [hv] at htaken
    have hcases := applyFoldSetting_cases h (channelStored s h k v)
    rw [enable_channelStored hk0] at hcases
    have hquiet : t.mis = s.mis ∧ t.mods = s.mods ∧ t.ctl = s.ctl ∧ t.arc = s.arc ∧ t.pub = s.pub := by
      apply htaken.quiet <;> rw [hcases] <;> split <;> rfl
    obtain ⟨hmis, hmods, hctl, harc, hpub⟩ := hquiet
    refine ⟨t, hexec, wordStored_channel htaken.shadow, htaken.sweep, htaken.forward,
      fun hoff => ?_, fun hon => ?_, htaken.ceilings, htaken.marks, htaken.image, htaken.frame.1,
      fun b hb => ?_⟩
    · rw [htaken.meas, hcases, if_neg (by simp [hoff])]; rfl
    · refine ⟨refactor (t.chanCfg h) x, ?_, rfl, rfl, rfl⟩
      rw [htaken.meas, hcases, if_pos hon, chanCfg_congr htaken.shadow]; rfl
    · cases b
      case mis => exact hmis
      case mods => exact hmods
      case ctl => exact hctl
      case arc => exact harc
      case pub => exact hpub
      all_goals exact htaken.frame.2 _ (by simp_all)
  · subst hk
    exact handoff_channel_later (kind := isTarget (isChannelWord [5, 6])) hw
      (by rw [isTarget, ht]; rfl) ht (by simp)
  · subst hk
    rw [← saturate_zero (hi := 32767) (by decide)]
    exact handoff_channel_later (kind := isTarget (isChannelWord [5, 6])) hw
      (by rw [isTarget, ht]; rfl) ht (by simp)
  · have hrow : isCalibration s a w = true := by
      rw [isCalibration, isTarget, ht]; rcases hk with rfl | rfl <;> rfl
    have hv : validChannel k.val w = w := by rcases hk with rfl | rfl <;> rfl
    obtain ⟨t, hexec, hstored⟩ := handoff_channel_later hw hrow ht (by tauto)
    rw [hv] at hstored
    exact ⟨t, hexec, hstored⟩

/-! ## Word 0 of a channel's record (section 1.8) -/

section Row
variable {s : State} {a w : Word} {h : Fin 25}

/-- A row that takes a channel word 0 judges the stored word and the validated one. -/
theorem isChannel0_eq (ht : s.target a = .channel h 0) (p : Word → Word → Bool) :
    isChannel0 p s a w = p (s.word (offChannel h.val 0)) (validChannel 0 w) := by
  rw [isChannel0, ht]; rfl

/-- A word 0 that no other row takes is WRITE_WORD's. -/
theorem hasOwnRow_channel0 (ht : s.target a = .channel h 0) :
    hasOwnRow s a w = (isChannel0 enables s a w || isChannel0 disables s a w || isDirectionChange s a w ||
      isPersistenceLower s a w || isShiftChange s a w) := by
  rw [hasOwnRow, ht]; rfl

/-- The six rows of a word 0, each by what it changes, are one handoff (log entry 7). -/
theorem word0_row (c : Instr) (ht : s.target a = .channel h 0) {v : Word} (hv : validChannel 0 w = v)
    (hc : c = .channelEnable ∧ (s.chanCfg h).enable = false ∧ bit v 0 = true ∨
      c = .channelDisable ∧ (s.chanCfg h).enable = true ∧ bit v 0 = false ∨
      c = .directionChange ∧ (s.chanCfg h).enable = true ∧ bit v 0 = true ∧ (s.chanCfg h).low ≠ bit v 1 ∨
      c = .persistenceLower ∧ (s.chanCfg h).enable = true ∧ bit v 0 = true ∧
        field v 5 4 < (s.chanCfg h).pers ∨
      c = .calibrationWrite ∧ (s.chanCfg h).enable = bit v 0 ∧ (s.chanCfg h).shift ≠ field v 2 3 ∨
      c = .writeWord ∧ (s.chanCfg h).enable = bit v 0 ∧ (s.chanCfg h).shift = field v 2 3 ∧
        (bit v 0 = true → (s.chanCfg h).low = bit v 1 ∧ (s.chanCfg h).pers ≤ field v 5 4)) :
    ∃ kind : State → Word → Word → Bool, exec c s = handoffOf kind s ∧ kind s a w = true := by
  have hword (p : Word → Word → Bool) : isChannel0 p s a w = p (s.word (offChannel h.val 0)) v := by
    rw [isChannel0_eq ht, hv]
  have henable : (s.chanCfg h).enable = bit (s.word (offChannel h.val 0)) 0 := rfl
  have hlow : (s.chanCfg h).low = chanLow (s.word (offChannel h.val 0)) := rfl
  have hshift : (s.chanCfg h).shift = chanShift (s.word (offChannel h.val 0)) := rfl
  have hpers : (s.chanCfg h).pers = chanPers (s.word (offChannel h.val 0)) := rfl
  rw [henable, hlow, hshift, hpers] at hc
  rcases hc with ⟨rfl, ho, hn⟩ | ⟨rfl, ho, hn⟩ | ⟨rfl, ho, hn, hd⟩ | ⟨rfl, ho, hn, hp⟩ | ⟨rfl, hen, hs⟩ |
    ⟨rfl, hen, hs, hrest⟩
  · exact ⟨_, rfl, by rw [hword]; simp [enables, ho, hn]⟩
  · exact ⟨_, rfl, by rw [hword]; simp [disables, ho, hn]⟩
  · exact ⟨_, rfl, by rw [isDirectionChange, hword]; simpa [staysEnabled, ho, hn, chanLow] using hd⟩
  · exact ⟨_, rfl, by
      rw [isPersistenceLower, hword, staysEnabled, ho, hn]; exact decide_eq_true hp⟩
  · refine ⟨_, rfl, ?_⟩
    rw [isCalibration, isShiftChange, hword]
    simpa [hen, chanShift] using .inr hs
  · refine ⟨fun s a w => !hasOwnRow s a w, rfl, ?_⟩
    show (!hasOwnRow s a w) = true
    rw [hasOwnRow_channel0 ht, isDirectionChange, isPersistenceLower, isShiftChange]
    simp only [hword]
    cases hb : bit v 0
    · rw [hb] at hen
      simpa [enables, disables, staysEnabled, hen, hb, chanShift] using hs
    · rw [hb] at hen
      obtain ⟨hl, hp⟩ := hrest hb
      simpa [enables, disables, staysEnabled, hen, hb, chanShift, chanLow, chanPers] using
        ⟨⟨hl, decide_eq_false (Nat.not_lt.mpr hp)⟩, hs⟩

end Row

/-- A stopped channel submits a CHANNEL record if it was in FAULT (R18). -/
theorem faultDrafts_stopped (c : Fin 25) (was : Bool) :
    faultDrafts c was false = if was = true then [⟨.channel, word c.val, 0, 0⟩] else [] := by
  cases was <;> rfl

/-- R19, R20: what retuning makes of a channel that stays enabled. -/
theorem retuneChannel_spec (old new : ChanCfg) (x : Channel) :
    let y := retuneChannel old new x
    y.instant = x.instant ∧ y.filtered = x.filtered ∧ y.unseeded = x.unseeded ∧
      y.tripFlag = x.tripFlag ∧ y.inFault = x.inFault ∧ y.railCount = min x.railCount new.pers ∧
      y.persCount = (if old.low = new.low then min x.persCount new.pers else 0) ∧
      y.factor = (if old.low = new.low then x.factor else chanFactor new x) ∧
      y.state = (if old.low = new.low then x.state else chanState new y) := by
  by_cases hlow : old.low = new.low
  · simp [retuneChannel, hlow]
  · have hturn : (old.low != new.low) = true := by simp [hlow]
    simp [retuneChannel, hturn, hlow, refactor, chanFactor, chanState]

/-- The reaction of an event on a stored word is that of the event the handoff met. -/
theorem member_channelStored (s : State) (h : Fin 25) (k : Fin 8) (v : Word) :
    Reaction.member (channelStored s h k v).st = Reaction.member s :=
  Reaction.member_congr rfl rfl (param_channelStored (by decide) (by decide))
    (param_channelStored (by decide) (by decide))

section Stopped
variable (s : State) (h : Fin 25) (v : Word)

/-- The event of a channel that is disabled: R18, and for channels 16 and 17 R29. -/
def stopped : Ev :=
  let e := channelStored s h 0 v
  let stop := changeChan h (stopChannel (s.meas.chans[h])) e
  if h.val = 16 ∨ h.val = 17 then changeMismatch (notComputed 4096) stop else stop

theorem stopped_chans :
    (stopped s h v).st.meas.chans = s.meas.chans.set h (stopChannel (s.meas.chans[h])) := by
  simp only [stopped]
  split
  · rw [changeMismatch_meas, changeChan_meas]; rfl
  · rw [changeChan_meas]; rfl

theorem stopped_mis : (stopped s h v).st.mis =
    if h.val = 16 ∨ h.val = 17 then ⟨0, 4096, 0, false⟩ else s.mis := by
  simp only [stopped]
  split
  · rw [changeMismatch_mis]; rfl
  · rw [changeChan_mis]; rfl

variable {h}

theorem stopped_of_module (hh : h.val < 16) :
    stopped s h v = changeChan h (stopChannel (s.meas.chans[h])) (channelStored s h 0 v) :=
  if_neg (by omega)

/-- R18, R38: the trip condition of the module ends with the channel. -/
theorem stopped_recovers (hh : h.val < 16) (hx : (s.meas.chans[h]).tripFlag = true)
    (hd : (s.meas.chans[fellow h]).tripFlag = false) (hst : (s.mods.mods[moduleOf h]).state = .off) :
    (stopped s h v).st.mods = recount { s.mods with
      mods := s.mods.mods.set (moduleOf h) ⟨.recovering, some (s.param offModHold * 100)⟩ } ∧
    (stopped s h v).reaction = Reaction.member s .modules s.mods.flag (stopped s h v).st.mods.flag
      ⟨s.ctl, s.arc.settle, faultDrafts h (s.meas.chans[h]).inFault false ++
        [⟨.module, word (moduleOf h).val, 3, word h.val⟩]⟩ := by
  have hmove := changeChan_recovers (ch := stopChannel (s.meas.chans[h])) (e := channelStored s h 0 v)
    hh hx rfl hd hst
  obtain ⟨hmods, hre⟩ := changeChan_moves (by decide) hmove
  have hlength : (channelStored s h 0 v).st.modHoldLength = s.param offModHold * 100 :=
    congrArg (· * 100) (param_channelStored (by decide) (by decide))
  rw [stopped_of_module s v hh]
  refine ⟨by rw [hmods, hlength]; rfl, ?_⟩
  rw [hre, member_channelStored]; rfl

theorem stopped_keeps (hh : h.val < 16)
    (hkeep : ¬((s.meas.chans[h]).tripFlag = true ∧ (s.meas.chans[fellow h]).tripFlag = false ∧
      (s.mods.mods[moduleOf h]).state = .off)) :
    (stopped s h v).st.mods = s.mods ∧
    (stopped s h v).reaction = ⟨s.ctl, s.arc.settle, faultDrafts h (s.meas.chans[h]).inFault false⟩ := by
  have hcases : changeChan h (stopChannel (s.meas.chans[h])) (channelStored s h 0 v) =
      replaced h (stopChannel (s.meas.chans[h])) (channelStored s h 0 v) := by
    apply changeChan_keeps hh
    show false = (s.meas.chans[h]).tripFlag ∨ (s.mods.mods[moduleOf h]).state = .absent ∨
      (false = true ∧ _) ∨
      (false = false ∧ ((s.meas.chans[fellow h]).tripFlag = true ∨ (s.mods.mods[moduleOf h]).state = .on ∨
        (s.mods.mods[moduleOf h]).state = .recovering))
    cases hx : (s.meas.chans[h]).tripFlag
    · exact .inl rfl
    cases hd : (s.meas.chans[fellow h]).tripFlag
    · cases hst : (s.mods.mods[moduleOf h]).state
      case off => exact absurd ⟨hx, hd, hst⟩ hkeep
      all_goals simp
    · simp
  rw [stopped_of_module s v hh, hcases, replaced_mods, replaced_reaction]
  exact ⟨rfl, rfl⟩

/-- R18, R29: a channel 16 to 24 takes its member along, and channels 16 and 17 then MISMATCH. -/
theorem stopped_leaves {i : Fin 9} (hi : h.val = 16 + i.val) :
    let own := Reaction.member s (.chan i) (s.meas.chans[h]).tripFlag false
      ⟨s.ctl, s.arc.settle, faultDrafts h (s.meas.chans[h]).inFault false⟩
    (stopped s h v).st.mods = s.mods ∧
    (stopped s h v).reaction =
      if h.val = 16 ∨ h.val = 17 then own.member s .mismatch s.mis.flag false else own := by
  intro own
  let e := channelStored s h 0 v
  let stop := changeChan h (stopChannel (s.meas.chans[h])) e
  have hm : Measured e.st stop.st := changeChan_measured h (stopChannel (s.meas.chans[h])) e
  have hown : stop.reaction = own := by
    rw [(Measured.refl e.st).changeChan_reaction hi, member_channelStored]
    rfl
  have hmods : stop.st.mods = s.mods := changeChan_mods_system (by omega) (stopChannel (s.meas.chans[h])) e
  have hf : (stop.st.meas.chans[16]).filtered = (e.st.meas.chans[16]).filtered := by
    rw [changeChan_meas]
    by_cases h16 : h.val = 16
    · obtain rfl : h = 16 := Fin.ext h16
      simp [stopChannel, e, channelStored]
    · rw [Vector.getElem_set_ne _ _ h16]
  simp only [stopped]
  split
  · rw [changeMismatch_mods, hm.changeMismatch_reaction hf, hown, member_channelStored, changeChan_mis]
    exact ⟨hmods, rfl⟩
  · exact ⟨hmods, hown⟩

end Stopped

/-- Settles O43: every row is one handoff, whose event is the case of `applyChannelWord0` that the enable
bits before and after pick. -/
theorem channelWordZeroWrites : Obligations.ChannelWordZeroWrites := by
  intro c s a w h hw ht old v en x fault hc
  have hv : validChannel 0 w = v := validChannel_zero w
  obtain ⟨kind, hexec, hkind⟩ := word0_row c ht hv hc
  obtain ⟨t, hnext, htaken⟩ := handoff_channel
    (x := applyChannelWord0 h old (channelStored s h 0 (validChannel 0 w))) hw hkind ht rfl
    (applyChannelWord0_measured h old _)
  have htaken : Taken s t a w h 0 v (applyChannelWord0 h old (channelStored s h 0 v)) := hv ▸ htaken
  obtain ⟨henable, hlow, hpers⟩ := chanCfg_channelStored s h v
  have hchans {ev : Ev} (he : applyChannelWord0 h old (channelStored s h 0 v) = ev) :
      t.meas.chans = ev.st.meas.chans := by rw [htaken.meas, he]
  obtain ⟨hpulses, hgate⟩ := applyChannelWord0_flow h old (channelStored s h 0 v)
  refine ⟨t, hexec.trans hnext, wordStored_channel htaken.shadow, htaken.sweep, htaken.forward,
    fun ho hn => ?_, fun ho hn => ?_, fun ho hn => ?_, fun ho hn => ?_, fun hquiet => ?_, ?_,
    htaken.meas ▸ hpulses, htaken.meas ▸ hgate, htaken.ceilings, htaken.marks, htaken.image, htaken.frame⟩
  · exact hchans (applyChannelWord0_starts ho (henable.trans hn))
  · have hstop : applyChannelWord0 h old (channelStored s h 0 v) = stopped s h v :=
      applyChannelWord0_stops ho (henable.trans hn)
    have hreact := htaken.react
    have hmods := htaken.mods
    rw [hstop] at hreact hmods
    have hfault : faultDrafts h x.inFault false = fault := faultDrafts_stopped h x.inFault
    refine ⟨(hchans hstop).trans (stopped_chans s h v), ?_, fun n hn hh => ⟨?_, fun hkeep => ?_⟩,
      fun i hi => ?_⟩
    · rw [htaken.mis, hstop, stopped_mis]
    · rintro ⟨hx, hd, hst⟩
      obtain rfl : n = moduleOf h := Fin.ext hn
      obtain ⟨hm, hre⟩ := stopped_recovers s v hh hx hd hst
      rw [hre, ← hmods, hfault] at hreact
      exact ⟨hmods.trans hm, hreact⟩
    · obtain rfl : n = moduleOf h := Fin.ext hn
      obtain ⟨hm, hre⟩ := stopped_keeps s v hh hkeep
      rw [hre, hfault] at hreact
      exact ⟨hmods.trans hm, hreact⟩
    · obtain ⟨hm, hre⟩ := stopped_leaves s v hi
      rw [hre, hfault] at hreact
      exact ⟨hmods.trans hm, hreact⟩
  · have hspec := retuneChannel_spec old ((channelStored s h 0 v).st.chanCfg h) x
    rw [hlow, hpers] at hspec
    refine ⟨_, hchans (applyChannelWord0_retunes ho (henable.trans hn)), ?_⟩
    rw [chanCfg_congr htaken.shadow]
    exact hspec
  · rw [htaken.meas, applyChannelWord0_keeps ho (henable.trans hn)]; rfl
  · cases ho : old.enable
    · cases hn : en
      · apply htaken.quiet <;> rw [applyChannelWord0_keeps ho (henable.trans hn)] <;> rfl
      · apply htaken.quiet <;> rw [applyChannelWord0_starts ho (henable.trans hn)] <;> rfl
    · have hn : en = true := hquiet.resolve_left (by simp [ho])
      apply htaken.quiet <;> rw [applyChannelWord0_retunes ho (henable.trans hn)] <;> rfl
  · obtain ⟨-, harc, -⟩ := htaken.react
    rw [harc]

/-! ## The measurement invariant is not kept (R18, section 1.2)

`channelsRight` bounds the two counts of every channel by its persistence, also of a disabled one, whose
counts it does not say are 0; and the handoff of word 0 of a disabled channel stores a new persistence and
leaves the channel alone (R17 to R20 speak of enabled channels). The rail count of a disabled channel may so
be left above a lowered persistence. A run never gets there, since R18 sets the counts to 0, but the
invariant does not exclude it: it would have to say that a disabled channel's counts are 0. -/

/-- A disabled channel 0 with P = 5 and a rail count of 5, beside a valid table of otherwise unset words and
eight modules in ON, and a WRITE of 0x0020, which is P = 1, to the channel's word 0. -/
def strayCount : State :=
  { State.reset with
    resetHeld := false
    straps := 1
    shadow := (Vector.ofFn fun i : Fin 289 => loadValue (i.val + 1) 0).set (offChannel 0 0 - 1) 0x00A0
    loader := ⟨.complete, 0x122, 0⟩
    meas := { Measurement.reset with
      chans := Measurement.reset.chans.set 0 { Channel.reset with railCount := 5 } }
    mods := recount { Modules.reset with mods := Vector.replicate 8 ⟨.on, none⟩ }
    ctl := { Controller.reset with state := .standby }
    link := ⟨.serving, [0x8000, 0x105A, 0x0020], [], none, 1, [], []⟩
    pending := [.writeWord] }

theorem strayCount_shadowRight : shadowRight strayCount := by
  have hvalid : ∀ off : Fin 290, 1 ≤ off.val → off.val ≠ offLevelMask →
      loadValue off.val (strayCount.word off.val) = strayCount.word off.val := by decide +kernel
  have hmask : strayCount.word offLevelMask = 0 := by decide +kernel
  refine ⟨fun h => absurd h (by decide +kernel),
    fun _ => ⟨fun off h1 h2 => hvalid ⟨off, by omega⟩ h1, fun _ => ?_⟩⟩
  rw [entriesApart, hmask]
  exact ⟨by decide, fun i hi => absurd hi (by simp [bit])⟩

theorem strayCount_channelsRight : channelsRight strayCount := by
  intro _; decide +kernel

theorem strayCount_modulesRight : modulesRight strayCount := by
  intro _
  refine ⟨by decide +kernel, fun n => ⟨?_, ?_, ?_, ?_⟩⟩ <;> revert n <;> decide +kernel

theorem strayCount_causesRight : causesRight strayCount := by
  refine ⟨?_, ?_, ?_⟩ <;> decide +kernel

/-- The step takes the word and leaves the rail count above the new persistence. -/
theorem step_strayCount : ∃ t, step strayCount = .next t ∧ t.loaded = true ∧
    (t.meas.chans[0]).railCount = 5 ∧ (t.chanCfg 0).pers = 1 := by
  have hword : ({ strayCount with pending := [] } : State).handoffWord = some (0x105A, 0x0020) := by
    decide +kernel
  have hrow : (!hasOwnRow { strayCount with pending := [] } 0x105A 0x0020) = true := by decide +kernel
  exact ⟨_, handoffOf_of (kind := fun s a w => !hasOwnRow s a w) hword hrow, by decide +kernel,
    by decide +kernel, by decide +kernel⟩

/-- Refutes O53: `strayCount` meets every premise, and the write of its word 0 leaves channel 0 with a rail
count of 5 and a persistence of 1. -/
theorem not_measurementInvariant : ¬ Obligations.MeasurementInvariant := by
  intro h
  obtain ⟨t, hstep, hloaded, hcount, hpers⟩ := step_strayCount
  have hheld : heldInReset strayCount := fun h => absurd h (by decide +kernel)
  have hstart : startsAtLoad strayCount :=
    ⟨fun h => absurd h (by decide +kernel), fun h => absurd h (by decide +kernel)⟩
  obtain ⟨hchannels, -⟩ := h strayCount t ⟨hheld, hstart, strayCount_shadowRight⟩
    ⟨strayCount_channelsRight, strayCount_modulesRight, strayCount_causesRight⟩ hstep
  have hrail : (t.meas.chans[0]).railCount ≤ (t.chanCfg 0).pers := (hchannels hloaded 0).2.2.1
  rw [hcount, hpers] at hrail
  exact absurd hrail (by decide)

end Sys2Proof.Machine
end

section
/-! # Mismatch and module balance (chapter 2)

The proofs of the statements about the mismatch evaluator and the module supervisor: the evaluation by case
and its arithmetic, the counts and F_bal, what the raw ceilings are the least of, and the events that move
modules without a sample, a recovery hold's end and a new present mask. -/

namespace Sys2Proof.Machine

open Sys2Proof Sys2Proof.Config

/-! ## The mismatch evaluation, by case (R29, R30) -/

section Cases
variable {i : MismatchInput} (m : Mismatch)

theorem evalMismatch_disabled (h : i.enabled16 = false ∨ i.enabled17 = false) :
    evalMismatch i m = notComputed 4096 := by
  rcases h with h | h <;> simp [evalMismatch, h]

theorem evalMismatch_fault (he : ¬(i.enabled16 = false ∨ i.enabled17 = false))
    (h : i.ch16.inFault = true ∨ i.ch17.inFault = true) :
    evalMismatch i m = notComputed i.faultFactor17 := by
  simp only [not_or, Bool.not_eq_false] at he
  rcases h with h | h <;> simp [evalMismatch, he, h]

/-- R29: a channel that is unseeded, or a forward power too low to judge by. -/
theorem evalMismatch_unjudged (he : ¬(i.enabled16 = false ∨ i.enabled17 = false))
    (hf : ¬(i.ch16.inFault = true ∨ i.ch17.inFault = true))
    (h : i.ch16.unseeded = true ∨ i.ch17.unseeded = true ∨ i.ch16.filtered < i.pfMin) :
    evalMismatch i m = notComputed 4096 := by
  simp only [not_or, Bool.not_eq_false, Bool.not_eq_true] at he hf
  rcases h with h | h | h <;> simp [evalMismatch, he, hf, h]

theorem evalMismatch_judges (he16 : i.enabled16 = true) (he17 : i.enabled17 = true)
    (hf16 : i.ch16.inFault = false) (hf17 : i.ch17.inFault = false)
    (hu16 : i.ch16.unseeded = false) (hu17 : i.ch17.unseeded = false)
    (hpf : (i.pfMin : Int) ≤ i.ch16.filtered) : evalMismatch i m = judgeMismatch i m := by
  have : ¬ i.ch16.filtered < i.pfMin := Int.not_lt.mpr hpf
  simp [evalMismatch, he16, he17, hf16, hf17, hu16, hu17, this]

end Cases

/-! ## The ratio and the factor (R30) -/

/-- Of a positive forward power the ratio is R30's integer quotient, whatever the sign of the reflected one. -/
theorem reflectionRatio_eq {pf : Int} (h : 1 ≤ pf) (pr : Int) :
    (reflectionRatio pf pr : Int) = min 4096 (max pr 0 * 4096 / pf) := by
  simp only [reflectionRatio, Nat.cast_min, Nat.cast_ofNat, Int.natCast_ediv, Nat.cast_mul]
  rw [Int.toNat_of_nonneg (le_max_right pr 0), Int.toNat_of_nonneg (by omega)]

theorem mismatchFactor_zero (ra : Nat) : mismatchFactor ra 0 = 4096 := rfl

theorem mismatchFactor_pos (ra : Nat) {q : Nat} (h : q ≠ 0) :
    mismatchFactor ra q = min 4096 (ra * 4096 / q) := if_neg h

theorem mismatchFactor_le (ra q : Nat) : mismatchFactor ra q ≤ 4096 := by
  unfold mismatchFactor; split <;> omega

/-- Up to the allowance the quotient is at least 4096. -/
theorem mismatchFactor_allowed {ra q : Nat} (h : q ≤ ra) : mismatchFactor ra q = 4096 := by
  rcases Nat.eq_zero_or_pos q with rfl | hq
  · rfl
  · have : 4096 ≤ ra * 4096 / q := (Nat.le_div_iff_mul_le hq).mpr (by omega)
    rw [mismatchFactor_pos ra hq.ne']; omega

theorem mismatchFactor_antitone {p q : Nat} (ra : Nat) (h : p ≤ q) :
    mismatchFactor ra q ≤ mismatchFactor ra p := by
  rcases Nat.eq_zero_or_pos p with rfl | hp
  · exact mismatchFactor_le ra q
  · have : ra * 4096 / q ≤ ra * 4096 / p := Nat.div_le_div_left h hp
    rw [mismatchFactor_pos ra hp.ne', mismatchFactor_pos ra (by omega)]
    omega

theorem mismatchFactor_full {ra : Nat} (h : ra ≤ 4096) : mismatchFactor ra 4096 = ra := by
  rw [mismatchFactor_pos ra (by decide), Nat.mul_div_cancel ra (by decide), Nat.min_eq_right h]

/-! ## The judgement (R31, R32) -/

/-- The count an evaluation that judges leaves, before any release (R31). -/
def mismatchCount (i : MismatchInput) (m : Mismatch) : Nat :=
  if i.qTrip ≤ reflectionRatio i.ch16.filtered i.ch17.filtered then min i.pm (m.count + 1) else 0

theorem mismatchCount_le (i : MismatchInput) (m : Mismatch) :
    mismatchCount i m ≤ min i.pm (m.count + 1) := by
  unfold mismatchCount; split <;> omega

section Judgement
variable (i : MismatchInput) (m : Mismatch)

/-- Whatever MISMATCH does, the ratio and the factor are R30's. -/
theorem judgeMismatch_ratio :
    (judgeMismatch i m).q = reflectionRatio i.ch16.filtered i.ch17.filtered ∧
    (judgeMismatch i m).factor =
      mismatchFactor i.ra (reflectionRatio i.ch16.filtered i.ch17.filtered) := by
  simp only [judgeMismatch]
  split
  · split <;> exact ⟨rfl, rfl⟩
  · exact ⟨rfl, rfl⟩

variable {m}

/-- R31: a clear flag sets when the count reaches Pm. -/
theorem judgeMismatch_clear (hm : m.flag = false) :
    ((judgeMismatch i m).flag = true ↔ mismatchCount i m = i.pm) ∧
    (judgeMismatch i m).count = mismatchCount i m := by
  simp [judgeMismatch, hm, mismatchCount]

/-- R32: a set flag is released at three quarters of q_trip. -/
theorem judgeMismatch_released (hm : m.flag = true)
    (hq : reflectionRatio i.ch16.filtered i.ch17.filtered ≤ 3 * i.qTrip / 4) :
    (judgeMismatch i m).flag = false ∧ (judgeMismatch i m).count = 0 := by
  simp [judgeMismatch, hm, hq]

/-- R32: above the release level a set flag stays. -/
theorem judgeMismatch_kept (hm : m.flag = true)
    (hq : 3 * i.qTrip / 4 < reflectionRatio i.ch16.filtered i.ch17.filtered) :
    (judgeMismatch i m).flag = true ∧ (judgeMismatch i m).count = mismatchCount i m := by
  simp [judgeMismatch, hm, Nat.not_le.mpr hq, mismatchCount]

end Judgement

/-- From a clear flag and a count of `n`, fewer than `Pm - n` evaluations cannot set MISMATCH (R31, R32). -/
theorem judgeMismatch_foldl_clear {pm : Nat} (is : List MismatchInput) :
    ∀ m : Mismatch, m.flag = false → (∀ i ∈ is, i.pm = pm) → m.count + is.length < pm →
      (is.foldl (fun m i => judgeMismatch i m) m).flag = false := by
  induction is with
  | nil => exact fun m hm _ _ => hm
  | cons i is ih =>
    intro m hm hpm hlen
    rw [List.length_cons] at hlen
    obtain ⟨hflag, hcount⟩ := judgeMismatch_clear i hm
    have hle := mismatchCount_le i m
    have hi : i.pm = pm := hpm i List.mem_cons_self
    have hclear : (judgeMismatch i m).flag = false := by
      rw [← Bool.not_eq_true, hflag]; omega
    exact ih (judgeMismatch i m) hclear (fun j hj => hpm j (List.mem_cons_of_mem i hj)) (by omega)

/-- Settles O16: an evaluation that judges takes R30's ratio, and the factor's figures follow from its
quotient. -/
theorem mismatchRatioAndFactor : Obligations.MismatchRatioAndFactor := by
  refine ⟨fun i m he16 he17 hf16 hf17 hu16 hu17 hmin hpf => ?_, fun ra _ hra => ?_⟩
  · rw [evalMismatch_judges m he16 he17 hf16 hf17 hu16 hu17 hpf]
    obtain ⟨hq, hfactor⟩ := judgeMismatch_ratio i m
    simp only [hq, hfactor]
    exact ⟨trivial, reflectionRatio_eq (by omega) _, fun h => by rw [h, mismatchFactor_zero],
      mismatchFactor_pos i.ra, fun h => by omega⟩
  · exact ⟨by omega, fun q => mismatchFactor_allowed, fun p q => mismatchFactor_antitone ra,
      mismatchFactor_full hra⟩

/-- Settles O17: the judgement by the flag it meets; fewer than Pm evaluations by induction on them. -/
theorem mismatchJudgement : Obligations.MismatchJudgement :=
  ⟨fun _ m => ⟨evalMismatch_disabled m, evalMismatch_fault m, evalMismatch_unjudged m⟩,
    fun i _ => ⟨judgeMismatch_clear i, judgeMismatch_released i, judgeMismatch_kept i⟩,
    fun q hq => by omega,
    fun is m _ hm hc hpm hlen => judgeMismatch_foldl_clear is m hm hpm (by omega)⟩

/-! ## The counts and F_bal (R41) -/

@[simp] theorem recount_mods (m : Modules) : (recount m).mods = m.mods := rfl

theorem recount_recount (m : Modules) : recount (recount m) = recount m := rfl

theorem countState_eq_countP (v : Vector Module 8) (p : ModState → Bool) :
    countState v p = v.toList.countP fun x => p x.state := List.countP_eq_length_filter.symm

theorem recount_nPresent (m : Modules) :
    (recount m).nPresent = m.mods.toList.countP fun x => x.state ≠ .absent := by
  rw [show (recount m).nPresent = countState m.mods (fun st => st != .absent) from rfl,
    countState_eq_countP]
  exact List.countP_congr fun x _ => by simp

theorem recount_nOn (m : Modules) :
    (recount m).nOn = m.mods.toList.countP fun x => x.state = .on := by
  rw [show (recount m).nOn = countState m.mods (fun st => st == .on) from rfl, countState_eq_countP]
  exact List.countP_congr fun x _ => by simp

theorem recount_nOn_le (m : Modules) : (recount m).nOn ≤ (recount m).nPresent := by
  rw [recount_nOn, recount_nPresent]
  exact List.countP_mono_left fun x _ h => by simp_all

theorem recount_nPresent_le (m : Modules) : (recount m).nPresent ≤ 8 := by
  rw [recount_nPresent]
  exact List.countP_le_length.trans_eq m.mods.length_toList

theorem recount_flag_iff (m : Modules) : (recount m).flag = true ↔ (recount m).nOn = 0 := beq_iff_eq

/-- A module in ON keeps MODULES clear. -/
theorem recount_flag_of_on {m : Modules} {n : Fin 8} (h : (m.mods[n]).state = .on) :
    (recount m).flag = false := by
  have hmem : m.mods[n] ∈ m.mods.toList := Vector.mem_toList_iff.mpr (Vector.getElem_mem n.isLt)
  rw [← Bool.not_eq_true, recount_flag_iff, recount_nOn, List.countP_eq_zero]
  exact fun hnone => hnone _ hmem (decide_eq_true h)

/-- The share of 4096 that R41 takes, of at most eight modules present. -/
theorem balanceFactor_spec {o p : Nat} (hop : o ≤ p) (hp : 1 ≤ p) (hp8 : p ≤ 8) :
    balanceFactor o p = 4096 * (o * o) / (p * p) ∧ balanceFactor o p ≤ 4096 ∧
    (balanceFactor o p = 4096 ↔ o = p) ∧ (balanceFactor o p = 0 ↔ o = 0) := by
  have heq : balanceFactor o p = 4096 * (o * o) / (p * p) := by rw [balanceFactor, sq, sq]
  have hpp : 0 < p * p := Nat.mul_pos hp hp
  have hle : 4096 * (o * o) / (p * p) ≤ 4096 :=
    Nat.div_le_of_le_mul (by rw [Nat.mul_comm]; gcongr)
  refine ⟨heq, heq ▸ hle, ?_, ?_⟩
  · rw [heq]
    refine ⟨fun h => le_antisymm hop (Nat.mul_self_le_mul_self_iff.mp ?_), ?_⟩
    · have := (Nat.le_div_iff_mul_le hpp).mp h.ge
      omega
    · rintro rfl; exact Nat.mul_div_cancel 4096 hpp
  · rw [heq, Nat.div_eq_zero_iff_lt hpp]
    have hpp64 : p * p ≤ 8 * 8 := Nat.mul_le_mul hp8 hp8
    refine ⟨fun h => ?_, by rintro rfl; omega⟩
    by_contra ho
    have : 0 < o * o := Nat.mul_pos (by omega) (by omega)
    omega

/-! ## The raw ceilings (R45, R49) -/

/-- `x` is the least member of the list. -/
def leastOf (l : List Nat) (x : Nat) : Prop := IsLeast {y | y ∈ l} x

theorem leastOf_singleton (a : Nat) : leastOf [a] a := by simp [leastOf]

theorem leastOf.append {l k : List Nat} {a b : Nat} (ha : leastOf l a) (hb : leastOf k b) :
    leastOf (l ++ k) (min a b) := by
  have hunion : {y | y ∈ l ++ k} = {y | y ∈ l} ∪ {y | y ∈ k} := Set.ext fun _ => List.mem_append
  rw [leastOf, hunion]
  exact ha.union hb

/-- A fold that takes each value in turn into the minimum. -/
theorem leastOf.foldl {α : Type} (f : α → Nat) (xs : List α) :
    ∀ {l : List Nat} {a : Nat}, leastOf l a →
      leastOf (l ++ xs.map f) (xs.foldl (fun a i => min a (f i)) a) := by
  induction xs with
  | nil => intro l a h; simpa using h
  | cons x xs ih =>
    intro l a h
    simpa using ih (h.append (leastOf_singleton (f x)))

/-- A cap takes part only while its mark is set (R46, R47). -/
theorem leastOf.cap {l : List Nat} {a : Nat} (h : leastOf l a) (mark : Bool) (cap : Nat) :
    leastOf (l ++ if mark = true then [cap] else []) (if mark = true then min a cap else a) := by
  cases mark
  · simpa using h
  · exact h.append (leastOf_singleton cap)

/-- R45: what the system raw ceiling is the least of. -/
theorem rawSystem_leastOf (s : State) : leastOf
    ([s.param offLicence, s.mis.factor, s.mods.fBal] ++
      (List.finRange 9).map (fun i => (s.meas.chans[16 + i.val]).factor) ++
      (if s.ceil.fallbackMark = true then [s.param offFallbackCap] else []) ++
      (if s.ceil.unprovenMark = true then [s.param offUnprovenCap] else [])) (rawSystem s) := by
  have h : leastOf [s.param offLicence, s.mis.factor, s.mods.fBal]
      (min (s.param offLicence) (min s.mis.factor s.mods.fBal)) :=
    (leastOf_singleton _).append ((leastOf_singleton _).append (leastOf_singleton _))
  exact ((h.foldl (fun i : Fin 9 => (s.meas.chans[16 + i.val]).factor) (List.finRange 9)).cap
    s.ceil.fallbackMark (s.param offFallbackCap)).cap s.ceil.unprovenMark (s.param offUnprovenCap)

theorem rawModule_on {s : State} {n : Fin 8} (h : (s.mods.mods[n]).state = .on) :
    rawModule s n = min (s.meas.chans[n.val]).factor (s.meas.chans[8 + n.val]).factor := if_pos h

theorem rawModule_off {s : State} {n : Fin 8} (h : (s.mods.mods[n]).state ≠ .on) :
    rawModule s n = 0 := if_neg h

/-- Settles O21: the counts and F_bal of any module states, and each raw ceiling as a least value. -/
theorem balanceFactorAndRawCeilings : Obligations.BalanceFactorAndRawCeilings := by
  refine ⟨fun m => ⟨rfl, recount_nPresent m, recount_nOn m, recount_nOn_le m, recount_nPresent_le m,
      recount_flag_iff m, fun hp =>
        balanceFactor_spec (recount_nOn_le m) hp (recount_nPresent_le m)⟩,
    fun s => ?_⟩
  obtain ⟨hmem, hle⟩ := rawSystem_leastOf s
  refine ⟨hmem, fun x hx => hle hx, fun n => ⟨fun hon => ?_, rawModule_off⟩⟩
  rw [rawModule_on hon]
  exact ⟨min_le_left _ _, min_le_right _ _, min_choice _ _⟩

/-! ## What moves a module without a sample -/

/-- `y` comes of `s` by transitions of modules alone, which move their states and effective ceilings. -/
def modulesMoved (s y : State) : Prop :=
  y = { s with mods := { s.mods with mods := y.mods.mods }, ceil := { s.ceil with eMod := y.ceil.eMod } }

theorem modulesMoved_refl (s : State) : modulesMoved s s := rfl

theorem setModule_moved (n : Fin 8) (st : ModState) (hold : Timer) (w : Word) (e : Ev) :
    modulesMoved e.st (setModule n st hold w e).st := rfl

theorem modulesMoved.trans {s x y : State} (h : modulesMoved s x) (k : modulesMoved x y) :
    modulesMoved s y := by
  unfold modulesMoved at k ⊢
  rw [h] at k
  exact k

section Moved
variable {s y : State} (h : modulesMoved s y)
include h

theorem modulesMoved.meas : y.meas = s.meas := by rw [h]
theorem modulesMoved.mis : y.mis = s.mis := by rw [h]
theorem modulesMoved.ctl : y.ctl = s.ctl := by rw [h]
theorem modulesMoved.arc : y.arc = s.arc := by rw [h]
theorem modulesMoved.flag : y.mods.flag = s.mods.flag := by rw [h]
theorem modulesMoved.eSys : y.ceil.eSys = s.ceil.eSys := by rw [h]

/-- The controller's reactions read nothing of the modules. -/
theorem modulesMoved.member : Reaction.member y = Reaction.member s := by
  rw [h]; exact Reaction.member_congr rfl rfl rfl rfl

variable {x : State} (hm : Measured y x)
include hm

/-- All that the modules' transitions and the controller's reaction leave of an event, as a change of `s`. -/
theorem modulesMoved.frame : x = { s with
    meas := x.meas, mis := x.mis, mods := x.mods, ctl := x.ctl
    ceil := { s.ceil with eSys := x.ceil.eSys, eMod := x.ceil.eMod }
    arc := { s.arc with settle := x.arc.settle } } := by
  have hx := hm.frame
  rw [h] at hx
  exact hx

theorem modulesMoved.marksKept : Machine.marksKept s x := by
  refine ⟨?_, ?_, ?_⟩ <;> rw [h.frame hm]

theorem modulesMoved.ceilingsFollow {t : State} (hc : Machine.ceilingsFollow x.ceil.eSys x.ceil.eMod t)
    (hctl : t.ctl = x.ctl) (hmods : t.mods = x.mods) :
    Machine.ceilingsFollow s.ceil.eSys y.ceil.eMod t :=
  h.eSys ▸ hm.ceilingsFollow_of hc hctl hmods

end Moved

section MovedEvent
variable {s y : State} {e : Ev} (h : modulesMoved s y) (hm : Measured y e.st)
include h hm

theorem modulesMoved.ungranted_reacted : reacted e.reaction s (ungranted s e) := by
  have hf := h.frame hm
  exact ⟨rfl, (congrArg State.arc hf :), submitted_concluded (congrArg State.pub hf :) rfl⟩

theorem modulesMoved.ungranted_ceilingsFollow :
    Machine.ceilingsFollow s.ceil.eSys y.ceil.eMod (ungranted s e) :=
  h.ceilingsFollow hm (Machine.ungranted_ceilingsFollow s e) rfl rfl

theorem modulesMoved.ungranted_marksKept : Machine.marksKept s (ungranted s e) := (h.marksKept hm :)

theorem modulesMoved.ungranted_imageFollows : imageFollows s (ungranted s e) :=
  imageFollows_concluded (congrArg State.image (h.frame hm) :)

theorem modulesMoved.ungranted_changesOnly (hmeas : e.st.meas = y.meas) (hmis : e.st.mis = y.mis)
    (harc : (ungranted s e).arc = s.arc) :
    changesOnly [.mods, .ceil, .image, .ctl, .pub] s (ungranted s e) := by
  have hf := h.frame hm
  refine ⟨(congrArg State.pending hf :), fun b hb => ?_⟩
  cases b <;> simp at hb
  · exact ⟨(congrArg State.resetHeld hf :), (congrArg State.resetKind hf :), (congrArg State.straps hf :)⟩
  · exact (congrArg State.ms hf :)
  · exact (congrArg State.shadow hf :)
  · exact (congrArg State.loader hf :)
  · exact (congrArg State.checker hf :)
  · exact hmeas.trans h.meas
  · exact hmis.trans h.mis
  · exact harc
  · exact (congrArg State.link hf :)
  · exact (congrArg State.stepped hf :)
  · exact (congrArg State.port hf :)

end MovedEvent

/-- The counts follow, and the controller takes a change of MODULES (R41, R101). -/
theorem modulesMoved.rebalance_reaction {s : State} {e : Ev} (h : modulesMoved s e.st) :
    (rebalance e).reaction = Reaction.member s .modules s.mods.flag (recount e.st.mods).flag
      ⟨s.ctl, s.arc.settle, e.out⟩ := by
  rw [(Measured.refl e.st).rebalance_reaction, h.member, h.flag, Ev.reaction, h.ctl, h.arc]

/-- A module whose effective ceiling stood at 0 keeps it there, in ON or not (R56). -/
theorem ceilingsFollow_zero {eSys : Nat} {eMod : Vector Nat 8} {t : State}
    (h : ceilingsFollow eSys eMod t) {n : Fin 8} (hn : eMod[n] = 0) : t.ceil.eMod[n] = 0 := by
  obtain ⟨-, -, -, heff⟩ := h
  rw [heff n, hn, Nat.zero_min, ite_self]

/-- A member that leaves moves the set and, from TRIPPED with the set then empty, the recovery hold (R110). -/
theorem Reaction.member_leaves (s : State) (m : Cause) (r : Reaction) :
    r.member s m true false =
      { r with ctl := { r.ctl with
          causes := r.ctl.causes.put m false
          hold := if r.ctl.state = .tripped ∧ (r.ctl.causes.put m false).isEmpty = true
            then some (s.param offSysHold * 100) else r.ctl.hold } } := by
  rw [Reaction.member_quiet s m (by decide) (by simp)]
  simp

/-- A member that only can leave moves the controller alone. -/
theorem reacted_leaving {s t : State} {m : Cause} {was : Bool} {ds : List Draft}
    (h : reacted (Reaction.member s m was false ⟨s.ctl, s.arc.settle, ds⟩) s t) :
    (was = false → t.ctl = s.ctl) ∧
    (was = true → t.ctl = (Reaction.member s m true false ⟨s.ctl, s.arc.settle, ds⟩).ctl) ∧
    t.arc = s.arc ∧ submitted ds s t := by
  cases was
  · rw [Reaction.member_same] at h
    obtain ⟨hctl, hrest⟩ := h
    exact ⟨fun _ => hctl, by simp, hrest⟩
  · obtain ⟨hctl, hrest⟩ := h
    rw [Reaction.member_leaves] at hrest
    exact ⟨by simp, fun _ => hctl, hrest⟩

/-! ## The end of a module's recovery hold (R39) -/

theorem exec_moduleRecoveryHoldExpiry {n : Fin 8} {s : State} (hr : s.resetHeld = false)
    (hst : (s.mods.mods[n]).state = .recovering) (hh : (s.mods.mods[n]).hold ≠ none) :
    exec (.moduleRecoveryHoldExpiry n) s =
      .next (settle (ungranted s (rebalance (setModule n .on none noneWord (Ev.of s))))) := by
  have : (!s.resetHeld && (s.mods.mods[n]).state == .recovering && (s.mods.mods[n]).hold.isSome) =
      true := by
    simpa [hr, Option.isSome_iff_ne_none] using ⟨hst, hh⟩
  show whenever _ _ _ = _
  rw [this]
  rfl

/-- Settles O20: one transition into ON, the count, and MODULES, clear with a module in ON, leaving if it
was set. -/
theorem recoveryHoldExpiryTurnsTheModuleOn : Obligations.RecoveryHoldExpiryTurnsTheModuleOn := by
  intro n s hr hst hh
  generalize he : setModule n .on none noneWord (Ev.of s) = e
  have hmoved : modulesMoved s e.st := he ▸ setModule_moved n .on none noneWord (Ev.of s)
  have hmods : e.st.mods = { s.mods with mods := s.mods.mods.set n ⟨.on, none⟩ } := by rw [← he]; rfl
  have heMod : e.st.ceil.eMod = s.ceil.eMod.set n 0 := by rw [← he]; rfl
  have hout : e.out = [⟨.module, word n.val, 1, 0xFFFF⟩] := by rw [← he]; rfl
  have hflag : (recount e.st.mods).flag = false := recount_flag_of_on (n := n) (by simp [hmods])
  have hm := rebalance_measured e
  have hreacted := hmoved.ungranted_reacted hm
  rw [hmoved.rebalance_reaction, hflag, hout] at hreacted
  obtain ⟨hstays, hleaves, harc, hsub⟩ := reacted_leaving hreacted
  rw [Reaction.member_leaves] at hleaves
  have hceil := hmoved.ungranted_ceilingsFollow hm
  rw [heMod] at hceil
  exact ⟨ungranted s (rebalance e), he ▸ exec_moduleRecoveryHoldExpiry hr hst hh,
    hmods ▸ rebalance_mods e, hceil, hmoved.ungranted_marksKept hm, ceilingsFollow_zero hceil (by simp),
    hstays, hleaves, hsub, hmoved.ungranted_imageFollows hm,
    hmoved.ungranted_changesOnly hm (rebalance_meas e) (rebalance_mis e) harc⟩

/-! ## A new present mask (R40, R150) -/

/-- The mask's bit of module `n` is not what it was. -/
def maskChanged (old new : Word) (n : Fin 8) : Bool := bit old n.val != bit new n.val

/-- The state a module goes to when its bit changes (R40). -/
def maskState (s : State) (new : Word) (n : Fin 8) : ModState :=
  if bit new n.val = false then .absent else if s.moduleTripped n = true then .off else .on

/-- The channel its MODULE record names (R42). -/
def maskChannel (s : State) (new : Word) (n : Fin 8) : Word :=
  if maskState s new n = .off then
    (if (s.meas.chans[n.val]).tripFlag = true then word n.val else word (8 + n.val))
  else 0xFFFF

/-- The records of the modules of a list that the mask changes. -/
def maskDrafts (s : State) (old new : Word) (l : List (Fin 8)) : List Draft :=
  (l.filter (maskChanged old new)).map fun n =>
    ⟨.module, word n.val, (maskState s new n).code, maskChannel s new n⟩

theorem presentChange_eq (old new : Word) (e : Ev) (n : Fin 8) :
    presentChange old new e n =
      if maskChanged old new n = true
      then setModule n (maskState e.st new n) none (maskChannel e.st new n) e else e := by
  cases ho : bit old n.val <;> cases hn : bit new n.val
  · simp [presentChange, maskChanged, ho, hn]
  · cases hf : (e.st.meas.chans[n.val]).tripFlag <;>
      cases hb : (e.st.meas.chans[8 + n.val]).tripFlag <;>
      simp [presentChange, maskChanged, maskState, maskChannel, State.moduleTripped, noneWord, ho, hn,
        hf, hb]
  · simp [presentChange, maskChanged, maskState, maskChannel, noneWord, ho, hn]
  · simp [presentChange, maskChanged, ho, hn]

/-- What the transitions of a list of modules make of the event `e`: module states, their effective
ceilings and records, and nothing else. -/
structure Remasked (old new : Word) (l : List (Fin 8)) (e y : Ev) : Prop where
  moved : modulesMoved e.st y.st
  out : y.out = e.out ++ maskDrafts e.st old new l
  mods : ∀ k : Fin 8, y.st.mods.mods[k] =
    if k ∈ l ∧ maskChanged old new k = true then ⟨maskState e.st new k, none⟩ else e.st.mods.mods[k]
  eMod : ∀ k : Fin 8, y.st.ceil.eMod[k] =
    if k ∈ l ∧ maskChanged old new k = true then 0 else e.st.ceil.eMod[k]

/-- A module that does not change takes no transition. -/
theorem Remasked.cons_keeps {old new : Word} {n : Fin 8} {l : List (Fin 8)} {e y : Ev}
    (hn : maskChanged old new n = false) (h : Remasked old new l e y) :
    Remasked old new (n :: l) e y where
  moved := h.moved
  out := by simpa [maskDrafts, hn] using h.out
  mods k := by
    rw [h.mods k]
    by_cases hk : k = n
    · simp [hk, hn]
    · simp [hk]
  eMod k := by
    rw [h.eMod k]
    by_cases hk : k = n
    · simp [hk, hn]
    · simp [hk]

/-- A module that changes takes its transition before those of the others. -/
theorem Remasked.cons_moves {old new : Word} {n : Fin 8} {l : List (Fin 8)} {e y : Ev}
    (hn : maskChanged old new n = true)
    (h : Remasked old new l (setModule n (maskState e.st new n) none (maskChannel e.st new n) e) y) :
    Remasked old new (n :: l) e y where
  moved := (setModule_moved ..).trans h.moved
  out := by rw [h.out]; simp [maskDrafts, hn, setModule, moduleDraft, maskState, maskChannel,
    State.moduleTripped]
  mods k := by
    rw [h.mods k]
    by_cases hk : k = n
    · subst hk; simp [setModule, hn, maskState, State.moduleTripped]
    · have hne : n.val ≠ k.val := fun hv => hk (Fin.ext hv.symm)
      simp [setModule, hk, Vector.getElem_set_ne _ _ hne, maskState, State.moduleTripped]
  eMod k := by
    rw [h.eMod k]
    by_cases hk : k = n
    · subst hk; simp [setModule, hn]
    · have hne : n.val ≠ k.val := fun hv => hk (Fin.ext hv.symm)
      simp [setModule, hk, Vector.getElem_set_ne _ _ hne]

theorem foldl_presentChange (old new : Word) (l : List (Fin 8)) :
    ∀ e : Ev, Remasked old new l e (l.foldl (presentChange old new) e) := by
  induction l with
  | nil => exact fun e => ⟨modulesMoved_refl e.st, by simp [maskDrafts], by simp, by simp⟩
  | cons n l ih =>
    intro e
    rw [List.foldl_cons, presentChange_eq]
    split
    case isTrue hn => exact (ih _).cons_moves hn
    case isFalse hn => exact (ih e).cons_keeps (Bool.eq_false_of_not_eq_true hn)

/-! ### The masks compared -/

theorem bit_low (w : Word) (n : Fin 8) : bit (w &&& 0x00FF) n.val = bit w n.val := by
  have hlow : ∀ n : Fin 8, bit 0x00FF n.val = true := by decide
  have hn := hlow n
  simp only [bit, BitVec.getLsbD_and] at hn ⊢
  rw [hn, Bool.and_true]

theorem bit_high (w : Word) {i : Nat} (hi : i < 16) (h8 : 8 ≤ i) : bit (w &&& 0x00FF) i = false := by
  have hhigh : ∀ i : Fin 16, 8 ≤ i.val → bit 0x00FF i.val = false := by decide
  have hn := hhigh ⟨i, hi⟩ h8
  simp only [bit, BitVec.getLsbD_and] at hn ⊢
  rw [hn, Bool.and_false]

/-- Two masks name the same modules exactly when none changes. -/
theorem low_eq_iff (old new : Word) :
    old &&& 0x00FF = new &&& 0x00FF ↔ ∀ n : Fin 8, maskChanged old new n = false := by
  simp only [maskChanged, bne_eq_false_iff_eq]
  constructor
  · intro h n
    rw [← bit_low old n, h, bit_low]
  · intro h
    apply BitVec.eq_of_getLsbD_eq
    intro i hi
    show bit _ i = bit _ i
    by_cases h8 : i < 8
    · exact (bit_low old ⟨i, h8⟩).trans ((h ⟨i, h8⟩).trans (bit_low new ⟨i, h8⟩).symm)
    · rw [bit_high old hi (by omega), bit_high new hi (by omega)]

theorem maskDrafts_eq_nil_iff (s : State) (old new : Word) :
    maskDrafts s old new (List.finRange 8) = [] ↔ ∀ n : Fin 8, maskChanged old new n = false := by
  simp [maskDrafts, List.filter_eq_nil_iff]

/-- The supervisor sees the low bits alone, which are all that validation keeps (R150). -/
theorem presentChange_low (old w : Word) : presentChange old (w &&& 0x00FF) = presentChange old w := by
  funext e n
  simp only [presentChange, bit_low]

theorem applyPresentMask_low (old w : Word) (e : Ev) :
    applyPresentMask old (w &&& 0x00FF) e = applyPresentMask old w e := by
  simp only [applyPresentMask, presentChange_low, BitVec.and_assoc, BitVec.and_self]

/-! ### The supervisor's part of the handoff -/

/-- What a new mask makes of the event `e`: the transitions leave `y`, and if there are any the counts
follow and the controller takes a change of MODULES (R40, R41). -/
structure Masked (old new : Word) (e y x : Ev) : Prop where
  remasked : Remasked old new (List.finRange 8) e y
  measured : Measured y.st x.st
  meas : x.st.meas = y.st.meas
  mis : x.st.mis = y.st.mis
  mods : x.st.mods.mods = y.st.mods.mods
  same : maskDrafts e.st old new (List.finRange 8) = [] → x.st.mods = e.st.mods
  counted : maskDrafts e.st old new (List.finRange 8) ≠ [] → x.st.mods = recount x.st.mods
  react : x.reaction = Reaction.member e.st .modules e.st.mods.flag x.st.mods.flag
    ⟨e.st.ctl, e.st.arc.settle, e.out ++ maskDrafts e.st old new (List.finRange 8)⟩

/-- A mask of the same modules changes nothing. -/
theorem masked_same {old new : Word} (h : ∀ n : Fin 8, maskChanged old new n = false) (e : Ev) :
    Masked old new e e (applyPresentMask old new e) := by
  have hnil := (maskDrafts_eq_nil_iff e.st old new).mpr h
  have hkeep : (List.finRange 8).foldl (presentChange old new) e = e :=
    foldl_keep _ _ _ fun e' n => by simp [presentChange_eq, h n]
  have hx : applyPresentMask old new e = e := if_pos ((low_eq_iff old new).mpr h)
  rw [hx]
  refine ⟨?_, .refl e.st, rfl, rfl, rfl, fun _ => rfl, fun hne => absurd hnil hne, ?_⟩
  · have hfold := foldl_presentChange old new (List.finRange 8) e
    rwa [hkeep] at hfold
  · rw [hnil, Reaction.member_same, List.append_nil]; rfl

/-- Every other mask counts once after its transitions. -/
theorem masked_moves {old new : Word} (h : ¬∀ n : Fin 8, maskChanged old new n = false) (e : Ev) :
    Masked old new e ((List.finRange 8).foldl (presentChange old new) e)
      (applyPresentMask old new e) := by
  have hne := mt (maskDrafts_eq_nil_iff e.st old new).mp h
  have hx : applyPresentMask old new e =
      rebalance ((List.finRange 8).foldl (presentChange old new) e) :=
    if_neg (mt (low_eq_iff old new).mp h)
  have hy := foldl_presentChange old new (List.finRange 8) e
  rw [hx]
  generalize (List.finRange 8).foldl (presentChange old new) e = y at hy ⊢
  refine ⟨hy, rebalance_measured y, rebalance_meas y, rebalance_mis y, by rw [rebalance_mods, recount_mods],
    fun hnil => absurd hnil hne, fun _ => by rw [rebalance_mods, recount_recount], ?_⟩
  rw [hy.moved.rebalance_reaction, hy.out, rebalance_mods]

theorem applyPresentMask_masked (old new : Word) (e : Ev) :
    ∃ y, Masked old new e y (applyPresentMask old new e) := by
  by_cases h : ∀ n : Fin 8, maskChanged old new n = false
  · exact ⟨e, masked_same h e⟩
  · exact ⟨_, masked_moves h e⟩

/-! ### The handoff -/

/-- The event of a stored present mask, before the supervisor acts on it. -/
def maskStored (s : State) (v : Word) : Ev := (Ev.of s).upd fun s => s.store offPresentMask v

/-- R150: a mask that names no module is HELD. -/
theorem treat_presentMask_held (s : State) {w : Word} (hw : w &&& 0x00FF = 0) :
    treat s (.param offPresentMask) w = ((Ev.of s).upd startSweep, .held) := by
  have hjudge : s.judge (.param offPresentMask) w = .held := by
    rw [State.judge, judgeParam, if_pos rfl, if_pos hw]
  simp only [treat, hjudge]
  rfl

/-- R149, R150: any other is taken with its low bits. -/
theorem treat_presentMask_taken (s : State) {w : Word} (hw : w &&& 0x00FF ≠ 0) :
    treat s (.param offPresentMask) w =
      (((applyPresentMask (s.word offPresentMask) w (maskStored s (w &&& 0x00FF))).upd recompute).upd
          startSweep,
        .forward (w &&& 0x00FF) .hostWrite) := by
  have hjudge : s.judge (.param offPresentMask) w = .taken (w &&& 0x00FF) := by
    rw [State.judge, judgeParam, if_pos rfl, if_neg hw]
  rw [← applyPresentMask_low]
  simp only [treat, hjudge]
  rfl

theorem wordStored_congr {s t u : State} {off : Nat} {v : Word} (h : t.shadow = u.shadow)
    (hu : wordStored off v s u) : wordStored off v s t := by
  obtain ⟨hv, hrest⟩ := hu
  exact ⟨(word_congr h off).trans hv, fun k hk hne => (word_congr h k).trans (hrest k hk hne)⟩

theorem wordStored_mask (s : State) (v : Word) : wordStored offPresentMask v s (maskStored s v).st :=
  wordStored_store v (by decide) (by decide)

/-- The reaction of an event on a stored mask is that of the event the handoff met. -/
theorem member_maskStored (s : State) (v : Word) :
    Reaction.member (maskStored s v).st = Reaction.member s := by
  obtain ⟨-, hrest⟩ := wordStored_mask s v
  exact Reaction.member_congr rfl rfl (congrArg BitVec.toNat (hrest offLockoutCount (by decide) (by decide)))
    (congrArg BitVec.toNat (hrest offSysHold (by decide) (by decide)))

/-- In a muted state E_sys is 0 (R50). -/
theorem ceilingsFollow_muted {eSys : Nat} {eMod : Vector Nat 8} {t : State}
    (h : ceilingsFollow eSys eMod t) (hr : t.ctl.state.running = false) : t.ceil.eSys = 0 := by
  obtain ⟨-, hsys, -, -⟩ := h
  rw [hsys, hr, if_neg Bool.false_ne_true]

theorem isTarget_presentMask {s : State} {a : Word} (ht : s.target a = .param offPresentMask) (w : Word) :
    isTarget (isParam [offPresentMask]) s a w = true := by
  rw [isTarget, ht]; rfl

section MaskHandoff
variable {s : State} {a w : Word} (hw : s.handoffWord = some (a, w))
  (ht : s.target a = .param offPresentMask)
include hw ht

theorem exec_presentMaskWrite_held (hv : w &&& 0x00FF = 0) :
    ∃ t, exec .presentMaskWrite s = .next t ∧ justHeld s t := by
  have htreat : treat s (s.target a) w = ((Ev.of s).upd startSweep, .held) := by
    rw [ht, treat_presentMask_held s hv]
  refine ⟨_, handoff_held hw (isTarget_presentMask ht w) htreat rfl rfl rfl rfl rfl rfl, ?_, ⟨rfl, rfl⟩,
    rfl, fun b hb => ?_⟩
  · simp [sweepStarted, startSweep, offFirstCovered]
  · cases b <;> simp at hb <;> simp [sameBlock]

/-- A mask that is taken: what the handoff leaves, and that the supervisor's part is `Masked`. -/
theorem exec_presentMaskWrite_taken (hv : w &&& 0x00FF ≠ 0) :
    let v := w &&& 0x00FF
    ∃ t y x, exec .presentMaskWrite s = .next t ∧
      Masked (s.word offPresentMask) w (maskStored s v) y x ∧ t.mods = x.st.mods ∧
      wordStored offPresentMask v s t ∧ sweepStarted s t ∧ forwarded s t a w v .hostWrite ∧
      ceilingsFollow s.ceil.eSys y.st.ceil.eMod t ∧ marksKept s t ∧ imageFollows s t ∧
      reacted x.reaction s t ∧
      changesOnly [.shadow, .checker, .mods, .ceil, .image, .arc, .ctl, .port, .link, .pub] s t := by
  intro v
  obtain ⟨y, hx⟩ := applyPresentMask_masked (s.word offPresentMask) w (maskStored s v)
  have htreat := treat_presentMask_taken s hv
  rw [← ht] at htreat
  generalize applyPresentMask (s.word offPresentMask) w (maskStored s v) = x at hx htreat
  have hmoved := hx.remasked.moved
  have hf := hmoved.frame hx.measured
  have hframe : x.st = { s with
      shadow := x.st.shadow, meas := x.st.meas, mis := x.st.mis, mods := x.st.mods, ceil := x.st.ceil,
      arc := x.st.arc, ctl := x.st.ctl } := by
    rw [hf]; rfl
  obtain ⟨t, hexec, hshadow, hsweep, hforward, hmeas, hmis, hmods, hctl, harc, hsub, hceil, hmarks, himage,
    hpending, hblocks⟩ := handoff_raw hw (isTarget_presentMask ht w) htreat hframe
      (hmoved.marksKept hx.measured)
  refine ⟨t, y, x, hexec, hx, hmods,
    wordStored_congr (hshadow.trans (congrArg State.shadow hf :)) (wordStored_mask s v), hsweep, hforward,
    hmoved.ceilingsFollow hx.measured hceil hctl hmods, hmarks, himage,
    ⟨hctl, harc.trans (congrArg State.arc hf :), hsub⟩, hpending, fun b hb => ?_⟩
  cases b
  case meas => exact hmeas.trans (hx.meas.trans hmoved.meas)
  case mis => exact hmis.trans (hx.mis.trans hmoved.mis)
  all_goals exact hblocks _ (by simp at hb ⊢)

end MaskHandoff

/-- Settles O45: the handoff by its validation, and the controller's part by what MODULES does. -/
theorem presentMaskWrites : Obligations.PresentMaskWrites := by
  intro s a w hw ht old v running changed becomes channel drafts
  refine ⟨exec_presentMaskWrite_held hw ht, fun hv => ?_⟩
  obtain ⟨t, y, x, hexec, hx, hmods, hstored, hsweep, hforward, hceil, hmarks, himage, hreacted,
    hblocks⟩ :=
    exec_presentMaskWrite_taken hw ht hv
  have heMod : y.st.ceil.eMod = Vector.ofFn fun n => if changed n = true then 0 else s.ceil.eMod[n] := by
    ext k hk
    have h := hx.remasked.eMod ⟨k, hk⟩
    simp only [List.mem_finRange, true_and] at h
    rw [Vector.getElem_ofFn]
    exact h
  have hreact : x.reaction =
      Reaction.member s .modules s.mods.flag t.mods.flag ⟨s.ctl, s.arc.settle, drafts⟩ := by
    rw [hx.react, member_maskStored, hmods]; rfl
  rw [heMod] at hceil
  rw [hreact] at hreacted
  obtain ⟨hsame, hjoins⟩ := reacted_modules hreacted (ceilingsFollow_muted hceil)
  refine ⟨t, hexec, hstored, hsweep, hforward, fun n => ?_, fun hnil => hmods.trans (hx.same hnil),
    fun hne => ?_, fun n hn => ceilingsFollow_zero hceil (by simp [hn]), hceil, hmarks, himage, hsame,
    fun hwas hnow hrun => ?_, fun hne hquiet => ?_, hblocks⟩
  · have h := hx.remasked.mods n
    simp only [List.mem_finRange, true_and] at h
    rw [hmods, hx.mods]
    exact h
  · rw [hmods]; exact hx.counted hne
  · obtain ⟨hctl, -, harc, hsub⟩ := hjoins hwas hnow hrun
    exact ⟨hctl, harc, hsub⟩
  · rw [Reaction.member_quiet s .modules (Ne.symm hne) hquiet] at hreacted
    exact hreacted

end Sys2Proof.Machine
end

section
/-! # The drive ceiling (chapters 3 and 4, section 9.2)

Three invariants of every step (RF kept off, the ceilings made of their inputs, the drive image converging), the
ramp, and the system parameters that act at their handoff. -/

namespace Sys2Proof.Machine

open Sys2Proof Sys2Proof.Config

/-! ## What a step can do

Every command's outcome is sorted once, by what its event does before it is concluded; each invariant is then
a case split over the kinds of events. -/

/-- `t` differs from `s` at most in what no ceiling, no drive level and no permission for RF depends on. -/
def quiet (s t : State) : Prop :=
  t = { s with
    ms := t.ms
    checker := { s.checker with sweep := t.checker.sweep, timer := t.checker.timer }
    meas := { s.meas with pulses := t.meas.pulses, gate := t.meas.gate }
    arc := { s.arc with settle := t.arc.settle, lines := t.arc.lines, surgeInput := t.arc.surgeInput }
    ctl := { s.ctl with list := t.ctl.list }
    link := t.link, stepped := t.stepped, port := t.port, pub := t.pub, pending := t.pending }

theorem quiet.trans {s x t : State} (h : quiet s x) (k : quiet x t) : quiet s t := by
  unfold quiet at k ⊢
  rw [h] at k
  exact k

section Quiet
variable {s t : State} (h : quiet s t)
include h

theorem quiet.resetHeld : t.resetHeld = s.resetHeld := by rw [h]
theorem quiet.ceil : t.ceil = s.ceil := by rw [h]
theorem quiet.image : t.image = s.image := by rw [h]

end Quiet

/-- The arbiter's own grants bear on the port, and of the link on the index (R133). -/
theorem settle_quiet (s : State) : quiet s (settle s) := by
  rcases settle_cases s with h | ⟨-, -, ⟨o, r, -, h⟩ | ⟨o, v, r, -, h⟩ |
      ⟨-, -, ⟨t, c, -, -, h⟩ | ⟨-, -, h⟩⟩⟩ <;> rw [h] <;> rfl

/-- Where no ceiling has changed, the drive image has nothing to follow: what is left of the conclusion of an
event bears on the records and the port. -/
theorem conclude_quiet_of_ceil {s : State} {e : Ev} (h : e.st.ceil = s.ceil) : quiet e.st (conclude s e) := by
  rw [conclude_eq, imageReact_of_ceil h]
  have hsub : quiet e.st (submitAll e.out e.st) := rfl
  exact hsub.trans (settle_quiet _)

theorem conclude_quietly {s : State} {e : Ev} (h : quiet s e.st) : quiet s (conclude s e) :=
  h.trans (conclude_quiet_of_ceil h.ceil)

/-- The table load goes on: it stores what it read, and issues its next access (R154). -/
def loadsOn (s t : State) : Prop :=
  t = { s with shadow := t.shadow, loader := t.loader, port := t.port }

theorem loadsOn.trans {s x t : State} (h : loadsOn s x) (k : loadsOn x t) : loadsOn s t := by
  unfold loadsOn at k ⊢
  rw [h] at k
  exact k

/-- What the blocks make of an event that meets `s` while the reset input is released: the kinds of events,
each before its conclusion. -/
inductive Happens (s : State) : Ev → Prop where
  | captured (i : Fin 9) (m : Word) {x : State} (hx : quiet s x) : Happens s
      ((Ev.of x).upd fun s => reschedule i { s with image := s.image.updRec i (seedRecord m.toNat) })
  | written (i : Fin 9) (v : Word) {x : State} (hx : quiet s x) : Happens s ((Ev.of x).upd (applyWrite i v))
  | handed {a w : Word} (hw : s.handoffWord = some (a, w)) : Happens s
      ((treat s (s.target a) w).1.upd (dispose a w (treat s (s.target a) w).2))
  | gated {x : State} (hx : quiet s x) : Happens s (Ev.of x)
  | arrived (c : Fin 25) (rails : Bool) (raw : Nat) {x : State} (hx : quiet s x) :
      Happens s ((arrive c rails raw (Ev.of x)).upd recompute)
  | moduleOn (n : Fin 8) :
      Happens s ((rebalance (setModule n .on none noneWord (Ev.of s))).upd recompute)
  | ramped : Happens s (ceilingReached ((Ev.of s).upd rampStep))
  | input (i : Fin 5) (level : Bool) {x : State} (hx : quiet s x) : Happens s (inputChange i level (Ev.of x))
  | edge (i : Fin 5) (level : Bool) : Happens s (debounced i level (Ev.of s))
  | proofFailed (i : Fin 5) : Happens s
      (((Ev.of s).upd fun s => setSourceState i .failed <| setStimulus i false <| setProof none none s).draft
        (proofDraft i false))
  | proofEnded : Happens s ((Ev.of s).upd (setProof none none))
  | blankEnded (hst : s.ctl.state = .blank) : Happens s
      (transition (if s.ctl.causes.isEmpty then .restart else .tripped) .blankExpiry
        ((Ev.of s).upd (setBlank none)))
  | holdEnded (hst : s.ctl.state = .tripped) (hh : s.ctl.hold ≠ none) :
      Happens s (transition .restart .holdExpiry ((Ev.of s).upd (setHold none)))
  | judged (v : Verdict) (computed : Word) {x : State} (hx : quiet s x) :
      Happens s (changeVerdict v computed (Ev.of x))
  | loads (hl : s.loaded = false) {e : Ev} (he : loadsOn s e.st) : Happens s e
  | loadEnds (hl : s.loaded = false) {e : Ev} (he : loadsOn s e.st) : Happens s (loadComplete e)

/-- What a step can do: nothing that matters here, a reset or its release, the grant of an image write, or an
event that is concluded. -/
inductive Occurs (s : State) : State → Prop where
  | quiet {t : State} (h : quiet s t) : Occurs s t
  | reset (k : ResetKind) : Occurs s { State.reset with
      resetKind := k
      arc := { Arc.reset with lines := s.arc.lines, surgeInput := s.arc.surgeInput }
      pending := s.pending }
  | released (hr : s.resetHeld = true) {x t : State}
      (hx : x = { s with resetHeld := false, straps := x.straps, loader := x.loader, port := x.port })
      (ht : quiet x t) : Occurs s t
  | granted {e : ImageWrite} {rest : List ImageWrite} (hq : s.image.queue = e :: rest) {x : State}
      (hx : quiet (takeHead e rest s) x) : Occurs s x
  | event (hr : s.resetHeld = false) {e : Ev} (he : Happens s e) : Occurs s (conclude s e)

/-! ### The commands sorted -/

/-- A command with a guard either does its event or nothing. -/
theorem occurs_whenever {p : Bool} {s t t' : State} (h : whenever p s t = .next t')
    (ht : p = true → Occurs s t) : Occurs s t' := by
  cases p
  · cases h; exact .quiet rfl
  · cases h; exact ht rfl

/-- A guarded quiet change. -/
theorem occurs_quietly {p : Bool} {s t t' : State} (h : whenever p s t = .next t') (ht : quiet s t) :
    Occurs s t' :=
  occurs_whenever h fun _ => .quiet ht

/-- A guarded quiet event. -/
theorem occurs_concluded {p : Bool} {s t' : State} {e : Ev} (h : whenever p s (conclude s e) = .next t')
    (he : quiet s e.st) : Occurs s t' :=
  occurs_quietly h (conclude_quietly he)

/-- A guarded event, its guard refusing a reset input that is held. -/
theorem occurs_event {p : Bool} {s t' : State} {e : Ev} (h : whenever p s (conclude s e) = .next t')
    (hp : p = true → s.resetHeld = false) (he : p = true → Happens s e) : Occurs s t' :=
  occurs_whenever h fun hp' => .event (hp hp') (he hp')

/-- Every handoff row hands off the word offered, or does nothing. -/
theorem occurs_handoff {kind : State → Word → Word → Bool} {s t : State}
    (h : handoffOf kind s = .next t) : Occurs s t := by
  unfold handoffOf at h
  split at h
  case h_1 hw =>
    obtain ⟨hr, -⟩ := handoffWord_eq_some.mp hw
    exact occurs_event h (fun _ => hr) fun _ => .handed hw
  case h_2 => cases h; exact .quiet rfl

/-- The load reads on or completes (R154, R155). -/
theorem loadOn_happens {s : State} {e : Ev} (hl : s.loaded = false) (he : loadsOn s e.st) :
    Happens s (loadOn e) := by
  unfold loadOn
  split
  · exact .loadEnds hl he
  · have hread : loadsOn e.st (e.upd issueRead).st := rfl
    exact .loads hl (he.trans hread)

theorem writeBackOr_happens {s : State} {e : Ev} (hl : s.loaded = false) (he : loadsOn s e.st) (off : Nat)
    (read valid : Word) : Happens s (writeBackOr off read valid e) := by
  unfold writeBackOr
  split
  · exact loadOn_happens hl he
  · have hwrite : loadsOn e.st (e.upd fun s => s.issue (.writeBack off valid)).st := rfl
    exact .loads hl (he.trans hwrite)

theorem loadWord_happens {s : State} (hl : s.loaded = false) (off : Nat) (v : Word) :
    Happens s (loadWord off v ((Ev.of s).upd State.portFree)) := by
  unfold loadWord
  dsimp only
  split
  · exact loadOn_happens hl rfl
  · split
    · exact writeBackOr_happens hl (by rfl) _ _ _
    · exact writeBackOr_happens hl (by rfl) _ _ _

theorem loading_iff {s : State} : s.loading = true ↔ s.resetHeld = false ∧ s.loader.phase = .running := by
  simp [State.loading]

/-- While the load runs it has not completed. -/
theorem loaded_of_loading {s : State} (h : s.loading = true) : s.loaded = false := by
  simp [State.loaded, (loading_iff.mp h).2]

theorem tableLoadReadCompletion_occurs {s t : State} {v : Word}
    (h : execTableLoadReadCompletion v s = .next t) : Occurs s t := by
  unfold execTableLoadReadCompletion at h
  split at h
  · exact occurs_event h (fun hp => (loading_iff.mp hp).1) fun hp => loadWord_happens (loaded_of_loading hp) _ v
  · cases h; exact .quiet rfl

theorem writeBackCompletion_occurs {s t : State} (h : execWriteBackCompletion s = .next t) : Occurs s t := by
  unfold execWriteBackCompletion at h
  split at h
  · exact occurs_event h (fun hp => (loading_iff.mp hp).1) fun hp => loadOn_happens (loaded_of_loading hp) rfl
  · cases h; exact .quiet rfl

theorem resetRelease_occurs {s t : State} {straps : BitVec 4} (h : execResetRelease straps s = .next t) :
    Occurs s t :=
  occurs_whenever h fun hr => .released hr (by rfl) (conclude_quiet_of_ceil (by rfl))

theorem captureReadCompletion_occurs {s t : State} {m : Word} (h : execCaptureReadCompletion m s = .next t) :
    Occurs s t := by
  unfold execCaptureReadCompletion at h
  split at h
  next i _ _ _ => exact occurs_event h (by simp) fun _ => .captured i m (x := s.portFree) rfl
  next => cases h; exact .quiet rfl

theorem imageWriteGrant_occurs {s t : State} (h : execImageWriteGrant s = .next t) : Occurs s t := by
  unfold execImageWriteGrant at h
  split at h
  next e rest hq =>
    split at h
    · exact occurs_whenever h fun _ => .granted hq rfl
    · cases h; exact .quiet rfl
  next => cases h; exact .quiet rfl

theorem imageWriteCompletion_occurs {s t : State} (h : execImageWriteCompletion s = .next t) :
    Occurs s t := by
  unfold execImageWriteCompletion at h
  split at h
  next i _ v _ => exact occurs_event h (by simp) fun _ => .written i v (x := s.portFree) rfl
  next => cases h; exact .quiet rfl

theorem hostLevelWriteCompletion_occurs {s t : State} (h : execHostLevelWriteCompletion s = .next t) :
    Occurs s t := by
  unfold execHostLevelWriteCompletion at h
  split at h
  next i _ v _ =>
    exact occurs_event h (by simp) fun _ => .written i v (x := s.portFree.updLink Link.disposed) rfl
  next => cases h; exact .quiet rfl

theorem captureReadGrant_occurs {s t : State} (h : execCaptureReadGrant s = .next t) : Occurs s t := by
  unfold execCaptureReadGrant at h
  split at h
  · exact occurs_quietly h rfl
  · cases h; exact .quiet rfl

theorem pendingChange_occurs {s t : State} {i : Fin 5} {high : Bool}
    (h : execPendingChange i high s = .next t) : Occurs s t := by
  refine occurs_whenever h fun _ => ?_
  dsimp only
  split
  next => exact .quiet rfl
  next hr => exact .event (Bool.not_eq_true _ ▸ hr) (.input i high rfl)

theorem surgeComparatorChange_occurs {s t : State} {r : Nat}
    (h : execSurgeComparatorChange r s = .next t) : Occurs s t := by
  unfold execSurgeComparatorChange at h
  cases h
  split
  next => exact .quiet rfl
  next hr => exact .event (Bool.not_eq_true _ ▸ hr) (.input 4 _ rfl)

theorem debouncedTransition_occurs {s t : State} {i : Fin 5} (h : execDebouncedTransition i s = .next t) :
    Occurs s t := by
  unfold execDebouncedTransition at h
  split at h
  next p _ => exact occurs_event h (by simp +contextual) fun _ => .edge i p.level
  next => cases h; exact .quiet rfl

theorem proofTimerExpiry_occurs {s t : State} (h : execProofTimerExpiry s = .next t) : Occurs s t := by
  unfold execProofTimerExpiry at h
  split at h
  next => cases h; exact .quiet rfl
  next p _ =>
    refine occurs_whenever h fun hp => ?_
    have hr : s.resetHeld = false := by simp at hp; exact hp.1
    split
    · exact .event hr (.proofFailed p.source)
    · exact .event hr .proofEnded

theorem requestFrame_occurs {s t : State} {w : Word} {mark : Bool}
    (h : execRequestFrame w mark s = .next t) : Occurs s t := by
  refine occurs_quietly h (conclude_quietly ?_)
  split
  · unfold reportLink; split <;> rfl
  · unfold reportLink; split <;> rfl
  · rfl
  · rfl

theorem stallTimerExpiry_occurs {s t : State} (h : execStallTimerExpiry s = .next t) : Occurs s t := by
  refine occurs_quietly h (conclude_quietly ?_)
  unfold reportLink
  split <;> rfl

theorem stepPreReadCompletion_occurs {s t : State} {c : Word} (h : execStepPreReadCompletion c s = .next t) :
    Occurs s t := by
  unfold execStepPreReadCompletion at h
  split at h
  · exact occurs_concluded h rfl
  · cases h; exact .quiet rfl

theorem grantPublication_quiet (s : State) : quiet s (grantPublication s) := by
  unfold grantPublication
  split
  · split <;> rfl
  · dsimp only
    split
    · rfl
    · split
      · split <;> rfl
      · rfl

theorem sweepCompletion_occurs {s t : State} (h : execSweepCompletion s = .next t) : Occurs s t := by
  unfold execSweepCompletion at h
  split at h
  next => cases h; exact .quiet rfl
  next =>
    refine occurs_event h (by simp) fun _ => .judged _ _ (x := { s with checker := { s.checker with sweep := .idle } }) rfl

theorem sampleArrival_occurs {s t : State} {c : Fin 25} {raw : BitVec 12}
    (h : execSampleArrival c raw s = .next t) : Occurs s t :=
  occurs_event h (by simp +contextual [State.sampling]) fun _ => .arrived c true raw.toNat rfl

theorem flowGateExpiry_occurs {s t : State} (h : execFlowGateExpiry s = .next t) : Occurs s t := by
  refine occurs_whenever h fun hp => ?_
  have hr : s.resetHeld = false := by simp at hp; exact hp.1
  dsimp only
  split
  · exact .event hr (.arrived 24 false s.meas.pulses (x := startGate (setPulses 0 s)) rfl)
  · exact .event hr (.gated rfl)

/-- Every command's outcome is one of the kinds. -/
theorem exec_occurs {c : Instr} {s t : State} (h : exec c s = .next t) : Occurs s t := by
  cases c with
  | resume | standby | release | proof | commandNone | unknownCommand | hostLevelWord
  | consumedIndexWrite | levelEnableMaskWrite | levelAddressWrite | guardWordAWrite | guardBaseStepWrite
  | sourceEnable | sourceDisable | sourceSettingChange | surgeLevelWrite | channelEnable | channelDisable
  | directionChange | persistenceLower | foldSettingWrite | tripLevelWrite | calibrationWrite
  | presentMaskWrite | mismatchParameterWrite | limitCapWrite | interruptionWindowWrite =>
    exact occurs_handoff h
  | writeWord => exact occurs_handoff (kind := fun s a w => !hasOwnRow s a w) h
  | flowPulse | muteSettleExpiry | interruptionEntryRemoval | linkHeader | frameWord | responseSent
  | sweepTimerExpiry => exact occurs_quietly h rfl
  | hostReadCompletion | hostWriteCompletion | snapshotTimerExpiry | snapshotWordCompletion
  | recordWordCompletion => exact occurs_concluded h rfl
  | publicationWriteGrant => exact occurs_concluded h (grantPublication_quiet s)
  | discardedWord => cases h; exact .quiet rfl
  | reset k => cases h; exact .reset k
  | resetRelease => exact resetRelease_occurs h
  | tableLoadReadCompletion => exact tableLoadReadCompletion_occurs h
  | writeBackCompletion => exact writeBackCompletion_occurs h
  | sampleArrival => exact sampleArrival_occurs h
  | flowGateExpiry => exact flowGateExpiry_occurs h
  | moduleRecoveryHoldExpiry n => exact occurs_event h (by simp +contextual) fun _ => .moduleOn n
  | rampExpiry => exact occurs_event h (by simp +contextual) fun _ => .ramped
  | captureReadGrant => exact captureReadGrant_occurs h
  | captureReadCompletion => exact captureReadCompletion_occurs h
  | imageWriteGrant => exact imageWriteGrant_occurs h
  | imageWriteCompletion => exact imageWriteCompletion_occurs h
  | hostLevelWriteCompletion => exact hostLevelWriteCompletion_occurs h
  | pendingChange => exact pendingChange_occurs h
  | surgeComparatorChange => exact surgeComparatorChange_occurs h
  | debouncedTransition => exact debouncedTransition_occurs h
  | proofTimerExpiry => exact proofTimerExpiry_occurs h
  | blankExpiry =>
    exact occurs_event h (by simp +contextual) fun hp => .blankEnded (by simp at hp; exact hp.1.2)
  | systemRecoveryHoldExpiry =>
    refine occurs_event h (by simp +contextual) fun hp => ?_
    simp [Option.isSome_iff_ne_none] at hp
    exact .holdEnded hp.1.2 hp.2
  | requestFrame w mark => exact requestFrame_occurs (w := w) (mark := mark) h
  | stallTimerExpiry => exact stallTimerExpiry_occurs h
  | stepPreReadCompletion => exact stepPreReadCompletion_occurs h
  | sweepCompletion => exact sweepCompletion_occurs h

/-- A step's outcome, too, whatever queue of commands the state holds: time that passes is quiet. -/
theorem step_occurs {s t : State} (h : step s = .next t) :
    ∃ rest, Occurs { s with pending := rest } t := by
  unfold step at h
  split at h
  next hp =>
    cases h
    refine ⟨s.pending, .quiet ?_⟩
    unfold idle tick
    split
    · rfl
    · split <;> rfl
  next rest hp => exact ⟨rest, exec_occurs h⟩

end Sys2Proof.Machine
end

section
namespace Sys2Proof.Machine

open Sys2Proof Sys2Proof.Config

/-! ## RF stays off wherever the rules forbid it (R50, R99, R101, R110) -/

theorem quiet.rfSafe {s t : State} (h : quiet s t) (hs : rfSafe s) : rfSafe t := by
  rw [h]; exact hs

/-- `rfSafe` while the reset input is released: what the operations of an event keep. -/
def rfLive (s : State) : Prop := s.resetHeld = false ∧ rfSafe s

section Live
variable {s : State} (h : rfLive s)
include h

theorem rfLive.quiet {t : State} (k : quiet s t) : rfLive t := ⟨k.resetHeld.trans h.1, k.rfSafe h.2⟩

theorem rfLive.noCause (hr : s.ctl.state.running = true) : s.ctl.causes.isEmpty = true := by
  obtain ⟨-, -, hcause, -⟩ := h
  exact hcause hr

theorem rfLive.muted (hr : s.ctl.state.running = false) : s.ceil.eSys = 0 := by
  obtain ⟨-, -, -, hoff, -⟩ := h
  exact hoff hr

theorem rfLive.eSys_le : s.ceil.eSys ≤ s.ceil.cRaw := by
  obtain ⟨-, -, -, -, hle, -⟩ := h
  exact hle

theorem rfLive.hold (hh : s.ctl.hold ≠ none) : s.ctl.state = .tripped ∧ s.ctl.causes.isEmpty = true := by
  obtain ⟨-, -, -, -, -, hhold⟩ := h
  exact hhold hh

/-- Outside TRIPPED the recovery hold is idle. -/
theorem rfLive.hold_none (hst : s.ctl.state ≠ .tripped) : s.ctl.hold = none := by
  by_contra hh
  exact hst (h.hold hh).1

/-- `rfSafe` reads the controller, E_sys and C_raw alone. -/
theorem rfLive.congr {t : State} (hr : t.resetHeld = s.resetHeld) (hctl : t.ctl = s.ctl)
    (he : t.ceil.eSys = s.ceil.eSys) (hc : t.ceil.cRaw = s.ceil.cRaw) : rfLive t := by
  unfold rfLive rfSafe at h ⊢
  rw [hr, hctl, he, hc]
  exact h

/-- The computation of the ceilings puts E_sys at 0 in a muted state and under C_raw in a running one. -/
theorem rfLive.recompute : rfLive (recompute s) := by
  obtain ⟨hr, hinh, hcause, hoff, hle, hhold⟩ := h
  refine ⟨hr, hinh, hcause, fun hm => if_neg (by simpa using hm), ?_, hhold⟩
  show (if _ then _ else _) ≤ rawSystem s
  split
  · exact Nat.min_le_right _ _
  · exact Nat.zero_le _

end Live

/-- A change of controller state is safe into a muted state, and into a running one with no trip cause. -/
theorem enterState_rfLive {dst : CtlState} {s : State} (hr : s.resetHeld = false)
    (hcause : dst.running = true → s.ctl.causes.isEmpty = true)
    (hoff : s.ctl.state.running = false → s.ceil.eSys = 0) (hle : s.ceil.eSys ≤ s.ceil.cRaw)
    (hhold : s.ctl.hold = none) : rfLive (enterState dst s) := by
  refine ⟨hr, ?_, hcause, fun hm => ?_, ?_, fun hh => absurd hhold hh⟩
  · show (!dst.running) = (s.resetHeld || !dst.running)
    rw [hr, Bool.false_or]
  · have hdst : dst ≠ .restart := by rintro rfl; cases hm
    have hm' : dst.running = false := hm
    show (if _ then _ else _) = 0
    rw [if_neg hdst, hm']
    cases hsrc : s.ctl.state.running
    · exact hoff hsrc
    · rfl
  · show (if _ then _ else _) ≤ s.ceil.cRaw
    split
    · exact Nat.min_le_right _ _
    · split
      · exact Nat.zero_le _
      · exact hle

/-- A transition out of a state other than TRIPPED. -/
theorem transition_rfLive {dst : CtlState} {c : StateCause} {e : Ev} (h : rfLive e.st)
    (hst : e.st.ctl.state ≠ .tripped) (hcause : dst.running = true → e.st.ctl.causes.isEmpty = true) :
    rfLive (transition dst c e).st :=
  enterState_rfLive h.1 hcause h.muted h.eSys_le (h.hold_none hst)

/-! ### The trip cause set -/

theorem CauseSet.isEmpty_iff {c : CauseSet} : c.isEmpty = true ↔
    (∀ i : Fin 9, c.chans[i] = false) ∧ c.mismatch = false ∧ c.modules = false := by
  have hchans : (∀ b ∈ c.chans.toList, b = false) ↔ ∀ i : Fin 9, c.chans[i] = false := by
    simp only [Vector.mem_toList_iff, Vector.mem_iff_getElem]
    exact ⟨fun h i => h _ ⟨i.val, i.isLt, rfl⟩, by rintro h _ ⟨i, hi, rfl⟩; exact h ⟨i, hi⟩⟩
  rw [← hchans, isEmpty, Bool.not_eq_true', Bool.or_eq_false_iff, Bool.or_eq_false_iff, List.any_eq_false,
    and_assoc]
  simp

/-- A member that leaves an empty set leaves it empty. -/
theorem CauseSet.isEmpty_put {c : CauseSet} (h : c.isEmpty = true) (m : Cause) :
    (c.put m false).isEmpty = true := by
  obtain ⟨hchans, hmis, hmods⟩ := isEmpty_iff.mp h
  refine isEmpty_iff.mpr ?_
  cases m with
  | chan i =>
    refine ⟨fun j => ?_, hmis, hmods⟩
    show (c.chans.set i false)[j.val] = false
    rw [Vector.getElem_set]
    split
    · rfl
    · exact hchans j
  | mismatch => exact ⟨hchans, rfl, hmods⟩
  | modules => exact ⟨hchans, hmis, rfl⟩

/-- Another cause set and another hold are safe where no running state stands with a cause and no hold runs
with one. -/
theorem rfLive.recause {s : State} (h : rfLive s) {causes : CauseSet} {hold : Timer}
    (hrun : s.ctl.state.running = true → causes.isEmpty = true)
    (hhold : hold ≠ none → s.ctl.state = .tripped ∧ causes.isEmpty = true) :
    rfLive { s with ctl := { s.ctl with causes := causes, hold := hold } } := by
  obtain ⟨hr, hinh, -, hoff, hle, -⟩ := h
  exact ⟨hr, hinh, hrun, hoff, hle, hhold⟩

/-- R101, R106, R107: a member that joins in a running state. -/
theorem causeJoin_running (m : Cause) {e : Ev} (h : e.st.ctl.state = .restart ∨ e.st.ctl.state = .run) :
    causeJoin m e =
      if m = .mismatch then mismatchInterruption (e.upd (setCause m true))
      else transition .tripped (.cause m) (e.upd (setCause m true)) := by
  have hst : (setCause m true e.st).ctl.state = e.st.ctl.state := rfl
  unfold causeJoin
  rcases h with h | h <;> simp only [Ev.upd_st, hst, h]

/-- R101, R110: a member that joins in a muted state. -/
theorem causeJoin_st_of_muted (m : Cause) {e : Ev} (h : e.st.ctl.state.running = false) :
    (causeJoin m e).st = { e.st with ctl := { e.st.ctl with
      causes := e.st.ctl.causes.put m true
      hold := if e.st.ctl.state = .tripped then none else e.st.ctl.hold } } := by
  unfold causeJoin
  dsimp only
  split
  next hs => exact absurd (.inl hs) (running_eq_false_iff.mp h)
  next hs => exact absurd (.inr hs) (running_eq_false_iff.mp h)
  next hs => rw [if_pos (show e.st.ctl.state = .tripped from hs)]; rfl
  next hs => rw [if_neg (show e.st.ctl.state ≠ .tripped from hs)]; rfl

/-- A member that joins takes RF off; in TRIPPED it cancels the recovery hold. -/
theorem causeJoin_rfLive {m : Cause} {e : Ev} (h : rfLive e.st) : rfLive (causeJoin m e).st := by
  cases hr : e.st.ctl.state.running
  case false =>
    rw [causeJoin_st_of_muted m hr]
    refine h.recause (by simp [hr]) fun hh => ?_
    split at hh
    · exact absurd rfl hh
    next hst => exact absurd (h.hold hh).1 hst
  case true =>
    have hst : e.st.ctl.state = .restart ∨ e.st.ctl.state = .run := by
      by_contra hn
      rw [running_eq_false_iff.mpr hn] at hr
      cases hr
    have hhold : e.st.ctl.hold = none := h.hold_none (by rcases hst with hs | hs <;> simp [hs])
    rw [causeJoin_running m hst]
    split
    · exact enterState_rfLive h.1 (by split <;> simp [CtlState.running]) h.muted h.eSys_le hhold
    · exact enterState_rfLive h.1 (by simp [CtlState.running]) h.muted h.eSys_le hhold

/-- A member that leaves: in TRIPPED the recovery hold starts once none is left (R101, R110). -/
theorem causeLeave_rfLive {m : Cause} {e : Ev} (h : rfLive e.st) : rfLive (causeLeave m e).st := by
  have hrun : e.st.ctl.state.running = true → (e.st.ctl.causes.put m false).isEmpty = true :=
    fun hr => CauseSet.isEmpty_put (h.noCause hr) m
  unfold causeLeave
  dsimp only
  split
  next hc => exact h.recause hrun fun _ => hc
  next =>
    refine h.recause hrun fun hh => ?_
    obtain ⟨hst, hempty⟩ := h.hold hh
    exact ⟨hst, CauseSet.isEmpty_put hempty m⟩

theorem causeChange_rfLive {m : Cause} {was now : Bool} {e : Ev} (h : rfLive e.st) :
    rfLive (causeChange m was now e).st := by
  cases was <;> cases now
  · exact h
  · exact causeJoin_rfLive h
  · exact causeLeave_rfLive h
  · exact h

/-! ### The measurement blocks -/

theorem setModule_rfLive {n : Fin 8} {st : ModState} {hold : Timer} {w : Word} {e : Ev} (h : rfLive e.st) :
    rfLive (setModule n st hold w e).st := h.congr rfl rfl rfl rfl

theorem rebalance_rfLive {e : Ev} (h : rfLive e.st) : rfLive (rebalance e).st :=
  causeChange_rfLive (h.congr rfl rfl rfl rfl)

theorem reportTrip_rfLive {c : Fin 25} {was now : Bool} {e : Ev} (h : rfLive e.st) :
    rfLive (reportTrip c was now e).st := by
  rcases reportTrip_cases c was now e with k | ⟨-, st, hold, -, k⟩ | ⟨-, i, k⟩ <;> rw [k]
  · exact h
  · exact rebalance_rfLive (setModule_rfLive h)
  · exact causeChange_rfLive h

theorem changeChan_rfLive {c : Fin 25} {ch : Channel} {e : Ev} (h : rfLive e.st) :
    rfLive (changeChan c ch e).st := by
  rw [changeChan_eq]
  exact reportTrip_rfLive (h.congr (by simp) (by simp) (by simp) (by simp))

theorem changeMismatch_rfLive {m : Mismatch} {e : Ev} (h : rfLive e.st) : rfLive (changeMismatch m e).st :=
  causeChange_rfLive (h.congr rfl rfl rfl rfl)

theorem arrive_rfLive {c : Fin 25} {rails : Bool} {raw : Nat} {e : Ev} (h : rfLive e.st) :
    rfLive (arrive c rails raw e).st := by
  simp only [arrive]
  split
  · exact changeMismatch_rfLive (changeChan_rfLive h)
  · exact changeChan_rfLive h

theorem setChan_rfLive {c : Fin 25} {ch : Channel} {s : State} (h : rfLive s) : rfLive (setChan c ch s) :=
  h.congr rfl rfl rfl rfl

theorem applyChannelWord0_rfLive {c : Fin 25} {old : ChanCfg} {e : Ev} (h : rfLive e.st) :
    rfLive (applyChannelWord0 c old e).st := by
  unfold applyChannelWord0
  dsimp only
  split
  · exact setChan_rfLive h
  · split
    · split
      · exact changeMismatch_rfLive (changeChan_rfLive h)
      · exact changeChan_rfLive h
    · split
      · exact setChan_rfLive h
      · exact h

theorem applyFoldSetting_rfLive {c : Fin 25} {e : Ev} (h : rfLive e.st) : rfLive (applyFoldSetting c e).st := by
  rw [applyFoldSetting_cases]
  split
  · exact setChan_rfLive h
  · exact h

theorem applyChannelWord_rfLive {c : Fin 25} {k : Nat} {old : ChanCfg} {e : Ev} (h : rfLive e.st) :
    rfLive (applyChannelWord c k old e).st := by
  unfold applyChannelWord
  split
  · exact applyChannelWord0_rfLive h
  · exact applyFoldSetting_rfLive h
  · exact applyFoldSetting_rfLive h
  · exact applyFoldSetting_rfLive h
  · exact h

theorem presentChange_rfLive {old new : Word} {e : Ev} {n : Fin 8} (h : rfLive e.st) :
    rfLive (presentChange old new e n).st := by
  unfold presentChange
  split
  · exact setModule_rfLive h
  · split
    · split
      · exact setModule_rfLive h
      · split <;> exact setModule_rfLive h
    · exact h

theorem applyPresentMask_rfLive {old new : Word} {e : Ev} (h : rfLive e.st) :
    rfLive (applyPresentMask old new e).st := by
  unfold applyPresentMask
  split
  · exact h
  · refine rebalance_rfLive ?_
    generalize List.finRange 8 = l
    induction l generalizing e with
    | nil => exact h
    | cons n l ih => exact ih (presentChange_rfLive h)

/-! ### The arc monitor -/

theorem setSourceState_rfLive {i : Fin 5} {st : SourceState} {s : State} (h : rfLive s) :
    rfLive (setSourceState i st s) :=
  (h.congr (t := judgeUnproven (setSource i (fun x => { x with state := st }) s)) rfl rfl rfl rfl).recompute

theorem setBlank_rfLive {b : Timer} {s : State} (h : rfLive s) : rfLive (setBlank b s) := h

theorem setHold_rfLive {s : State} (h : rfLive s) : rfLive (setHold none s) :=
  h.recause h.noCause (by simp)

theorem setCommand_rfLive {code : Nat} {r : CmdResult} {s : State} (h : rfLive s) :
    rfLive (setCommand code r s) := h

/-- R105: an arc event in a running state takes RF off. -/
theorem arcEvent_rfLive {o : Origin} {e : Ev} (h : rfLive e.st) (hst : e.st.ctl.state ≠ .tripped) :
    rfLive (arcEvent o e).st := by
  have hadd : rfLive (addInterruption o e).st := h
  unfold arcEvent
  dsimp only
  split
  · exact transition_rfLive hadd hst (by simp [CtlState.running])
  · exact setBlank_rfLive (transition_rfLive hadd hst (by simp [CtlState.running]))

theorem proofPass_rfLive {i : Fin 5} {e : Ev} (h : rfLive e.st) : rfLive (proofPass i e).st :=
  setSourceState_rfLive (h.congr rfl rfl rfl rfl)

theorem suspectEdge_rfLive {i : Fin 5} {e : Ev} (h : rfLive e.st) : rfLive (suspectEdge i e).st := by
  unfold suspectEdge
  split
  · exact h
  · exact setSourceState_rfLive h

theorem disposeEdge_rfLive {i : Fin 5} {e : Ev} (h : rfLive e.st) : rfLive (disposeEdge i e).st := by
  unfold disposeEdge
  split
  · exact proofPass_rfLive h
  split
  · exact h
  split
  next hst => exact arcEvent_rfLive h (by simp [hst])
  next hst => exact arcEvent_rfLive h (by simp [hst])
  next => exact h
  next => exact h
  all_goals
    split
    · exact h
    · exact suspectEdge_rfLive h

theorem debounced_rfLive {i : Fin 5} {level : Bool} {e : Ev} (h : rfLive e.st) :
    rfLive (debounced i level e).st := by
  have hset : rfLive (setSource i (fun x => { x with accepted := level, change := none }) e.st) := h
  unfold debounced
  dsimp only
  split
  · exact disposeEdge_rfLive hset
  · exact hset

theorem inputChange_rfLive {i : Fin 5} {level : Bool} {e : Ev} (h : rfLive e.st) :
    rfLive (inputChange i level e).st := by
  have hset (f : Source → Source) : rfLive (setSource i f e.st) := h
  unfold inputChange
  dsimp only
  split
  · exact h
  split
  · exact hset _
  split
  · exact h
  split
  · exact debounced_rfLive h
  · exact hset _

theorem abandonProof_rfLive {i : Fin 5} {s : State} (h : rfLive s) : rfLive (abandonProof i s) := by
  unfold abandonProof
  split <;> exact h

theorem applySource_rfLive {i : Fin 5} {old new : Word} {s : State} (h : rfLive s) :
    rfLive (applySource i old new s) := by
  have hset {x : State} (hx : rfLive x) (f : Source → Source) : rfLive (setSource i f x) := hx
  unfold applySource
  split
  · exact hset (setSourceState_rfLive h) _
  split
  · exact hset (setSourceState_rfLive (abandonProof_rfLive h)) _
  · exact h

/-! ### Commands and configuration words -/

theorem takeResume_rfLive {e : Ev} (h : rfLive e.st) : rfLive (takeResume e).st := by
  have hset : rfLive (setCommand 1 (resumeResult e.st) e.st) := h
  unfold takeResume
  dsimp only
  split
  next hc =>
    refine transition_rfLive hset (by simp only [Ev.upd_st] at hc ⊢; simp [hc.1]) fun hr => ?_
    split at hr
    next hempty => exact hempty
    next => cases hr
  next => exact hset

/-- STANDBY leads to a muted state, and from TRIPPED with the hold cancelled (R117). -/
theorem takeStandby_rfLive {e : Ev} (h : rfLive e.st) : rfLive (takeStandby e).st := by
  have hstandby {x : State} (hx : rfLive x) (hh : x.ctl.hold = none) : rfLive (enterState .standby x) :=
    enterState_rfLive hx.1 (by simp [CtlState.running]) hx.muted hx.eSys_le hh
  unfold takeStandby
  split
  next => exact setCommand_rfLive h
  next hst => exact hstandby (setCommand_rfLive h) (h.hold_none (by simp [hst]))
  next hst => exact hstandby (setCommand_rfLive h) (h.hold_none (by simp [hst]))
  next hst => exact hstandby (setBlank_rfLive (setCommand_rfLive h)) (h.hold_none (by simp [hst]))
  next => exact hstandby (setHold_rfLive (setCommand_rfLive h)) rfl
  next => exact setCommand_rfLive h
  next => exact setCommand_rfLive h

theorem takeRelease_rfLive {e : Ev} (h : rfLive e.st) : rfLive (takeRelease e).st := by
  unfold takeRelease
  split
  next hst =>
    exact enterState_rfLive h.1 (by simp [CtlState.running]) h.muted h.eSys_le
      (h.hold_none (by simp [hst]))
  next => exact h

/-- R92: a proof bears on the arc monitor alone. -/
theorem startProof_arc (n : Nat) (s : State) : (startProof n s).1 = { s with arc := (startProof n s).1.arc } := by
  unfold startProof
  split
  · rfl
  split
  · rfl
  split
  · split <;> rfl
  · rfl

theorem takeProof_rfLive {n : Nat} {e : Ev} (h : rfLive e.st) : rfLive (takeProof n e).st := by
  have hproof : rfLive (startProof n e.st).1 := by rw [startProof_arc]; exact h
  exact setCommand_rfLive hproof

theorem takeCommand_rfLive {w : Word} {e : Ev} (h : rfLive e.st) : rfLive (takeCommand w e).st := by
  unfold takeCommand
  split
  · exact h
  · exact takeResume_rfLive h
  · exact takeStandby_rfLive h
  · exact takeRelease_rfLive h
  · exact takeProof_rfLive h
  · exact h

theorem applyParam_rfLive {off : Nat} {old new : Word} {e : Ev} (h : rfLive e.st) :
    rfLive (applyParam off old new e).st := by
  unfold applyParam
  split
  · exact (applyPresentMask_rfLive h).recompute
  split
  · exact h.recompute
  split
  · exact h
  split
  · exact h
  split
  · exact inputChange_rfLive h
  · exact h

/-- `t` differs from `s` in what load completion starts and in nothing else (R155). -/
def startsOnly (s t : State) : Prop :=
  t = { s with
    loader := t.loader, meas := t.meas, mods := t.mods, image := t.image, port := t.port, pub := t.pub
    checker := { s.checker with sweep := t.checker.sweep, timer := t.checker.timer }
    ceil := { s.ceil with ramp := t.ceil.ramp, eMod := t.ceil.eMod }
    arc := { s.arc with sources := t.arc.sources } }

theorem startsOnly.trans {s x t : State} (h : startsOnly s x) (k : startsOnly x t) : startsOnly s t := by
  unfold startsOnly at k ⊢
  rw [h] at k
  exact k

/-- The drive image's part of a mask's handoff bears on the drive image and the port. -/
def imageOnly (s t : State) : Prop := t = { s with image := t.image, port := t.port }

theorem imageOnly.trans {s x t : State} (h : imageOnly s x) (k : imageOnly x t) : imageOnly s t := by
  unfold imageOnly at k ⊢
  rw [h] at k
  exact k

theorem applyLevelMask_only (old new : Word) (s : State) : imageOnly s (applyLevelMask old new s) := by
  have hfold (p : Fin 9 → Bool) (f : State → Fin 9 → State) (hf : ∀ x i, imageOnly x (f x i)) (x : State) :
      imageOnly x ((List.finRange 9).foldl (fun s i => if p i then f s i else s) x) := by
    refine List.foldlRecOn _ _ rfl fun y hy i _ => ?_
    split
    · exact hy.trans (hf y i)
    · exact hy
  exact (hfold (fun i => bit old i.val && !bit new i.val) removeRecord (fun _ _ => rfl) s).trans
    (hfold (fun i => bit new i.val && !bit old i.val) createRecord (fun _ _ => rfl) _)

theorem applyLevelMask_rfLive {old new : Word} {s : State} (h : rfLive s) :
    rfLive (applyLevelMask old new s) := by
  rw [show applyLevelMask old new s = _ from applyLevelMask_only old new s]; exact h

/-- The arc monitor's start bears on its sources. -/
def sourcesOnly (s t : State) : Prop := t = { s with arc := { s.arc with sources := t.arc.sources } }

theorem sourcesOnly.trans {s x t : State} (h : sourcesOnly s x) (k : sourcesOnly x t) : sourcesOnly s t := by
  unfold sourcesOnly at k ⊢
  rw [h] at k
  exact k

theorem sourcesOnly.image {s t : State} (h : sourcesOnly s t) : t.image = s.image := by rw [h]

theorem startArc_only (s : State) : sourcesOnly s (startArc s) := by
  refine List.foldlRecOn _ _ rfl fun y hy i _ => ?_
  split
  · exact hy.trans rfl
  · exact hy

theorem applyConfig_rfLive {s : State} {t : Target} {off : Nat} {v : Word} {e : Ev} (h : rfLive e.st) :
    rfLive (applyConfig s t off v e).st := by
  have hstore : rfLive (e.st.store off v) := h
  unfold applyConfig
  dsimp only
  split
  · exact h
  · exact applyParam_rfLive hstore
  · exact applyLevelMask_rfLive hstore
  · exact applySource_rfLive hstore
  · dsimp only [Ev.upd_st]
    split
    · exact (applyChannelWord_rfLive (e := e.upd fun s => s.store off v) hstore).recompute
    · exact applyChannelWord_rfLive (e := e.upd fun s => s.store off v) hstore
  · exact hstore

/-- What the blocks do at a handoff: nothing that matters here, a command, the record's part of a level word,
or what a taken configuration word does (R129, R149). -/
theorem treat_cases (s : State) (t : Target) (w : Word) :
    quiet s (treat s t w).1.st ∨
    (treat s t w).1 = takeCommand w (Ev.of s) ∨
    (∃ i, (treat s t w).1 = (Ev.of s).upd (takeLevel i w)) ∨
    ∃ off v, t.offset = some off ∧ (treat s t w).1 = sweepAfter t (applyConfig s t off v (Ev.of s)) := by
  unfold treat
  dsimp only
  split
  · exact .inl rfl
  · exact .inr (.inl rfl)
  · exact .inl rfl
  · exact .inl rfl
  · exact .inr (.inr (.inl ⟨_, rfl⟩))
  · exact .inl rfl
  · split
    next v off _ ho => exact .inr (.inr (.inr ⟨off, v, ho, rfl⟩))
    next =>
      left
      unfold sweepAfter
      split <;> rfl

theorem sweepAfter_quiet (t : Target) (e : Ev) : quiet e.st (sweepAfter t e).st := by
  unfold sweepAfter
  split <;> rfl

theorem dispose_quiet (a w : Word) (d : Disposal) (s : State) : quiet s (dispose a w d s) := by
  cases d <;> rfl

theorem treat_rfLive {s : State} (h : rfLive s) (t : Target) (w : Word) : rfLive (treat s t w).1.st := by
  rcases treat_cases s t w with k | k | ⟨i, k⟩ | ⟨off, v, -, k⟩
  · exact h.quiet k
  · rw [k]; exact takeCommand_rfLive h
  · rw [k]; exact h
  · rw [k]; exact (applyConfig_rfLive h).quiet (sweepAfter_quiet _ _)

/-! ### Every event -/

theorem rampUp_le {step raw eff : Nat} (h : eff ≤ raw) : rampUp step raw eff ≤ raw := by
  unfold rampUp; split <;> omega

theorem rampStep_rfLive {s : State} (h : rfLive s) : rfLive (rampStep s) := by
  obtain ⟨hr, hinh, hcause, hoff, hle, hhold⟩ := h
  refine ⟨hr, hinh, hcause, fun hm => ?_, ?_, hhold⟩
  · have hm' : s.ctl.state.running = false := hm
    exact (if_neg (by simp [hm'])).trans (hoff hm)
  · show (if _ then _ else _) ≤ s.ceil.cRaw
    split
    · exact rampUp_le hle
    · exact hle

theorem ceilingReached_rfLive {e : Ev} (h : rfLive e.st) : rfLive (ceilingReached e).st := by
  unfold ceilingReached
  split
  next hc => exact transition_rfLive h (by simp [hc.1]) fun _ => h.noCause (by rw [hc.1]; rfl)
  next => exact h

theorem changeVerdict_rfLive {v : Verdict} {computed : Word} {e : Ev} (h : rfLive e.st) :
    rfLive (changeVerdict v computed e).st := by
  unfold changeVerdict
  split
  · exact h
  · exact (h.congr (t := { e.st with
      checker := { e.st.checker with verdict := v }
      ceil := { e.st.ceil with fallbackMark := v != .agree } }) rfl rfl rfl rfl).recompute

/-- What the starts of the measurement unit, the module supervisor and the ramp make of a state at load
completion (R155). -/
def prestarted (s : State) : State :=
  startRamp <| startModules <| startMeasurement { s with loader := { s.loader with phase := .complete } }

/-- What all the blocks' starts make of it. -/
def started (s : State) : State :=
  startChecker <| startPublication <| startArc <| startImage <| prestarted s

theorem loadComplete_st (e : Ev) : (loadComplete e).st = recompute (enterState .standby (started e.st)) := rfl

theorem startImage_only (s : State) : imageOnly s (startImage s) :=
  applyLevelMask_only 0 (s.word offLevelMask) s

theorem started_only (s : State) : startsOnly s (started s) := by
  have hx : startsOnly s (prestarted s) := rfl
  have himage (x : State) : startsOnly x (startImage x) := by rw [startImage_only x]; rfl
  have hsources (y : State) : startsOnly y (startArc y) := by rw [startArc_only y]; rfl
  have hrest (z : State) : startsOnly z (startChecker (startPublication z)) := rfl
  exact ((hx.trans (himage _)).trans (hsources _)).trans (hrest _)

/-- Load completion leads from START, where no hold runs, to STANDBY. -/
theorem loadComplete_rfLive {e : Ev} (h : rfLive e.st) (hst : e.st.ctl.state = .start) :
    rfLive (loadComplete e).st := by
  have hstarted : rfLive (started e.st) ∧ (started e.st).ctl = e.st.ctl := by
    rw [started_only e.st]; exact ⟨h, rfl⟩
  obtain ⟨hlive, hctl⟩ := hstarted
  rw [loadComplete_st]
  exact (enterState_rfLive hlive.1 (by simp [CtlState.running]) hlive.muted hlive.eSys_le
    (hlive.hold_none (by simp [hctl, hst]))).recompute

theorem happens_rfLive {s : State} {e : Ev} (h : rfLive s) (hstart : startsAtLoad s) (he : Happens s e) :
    rfLive e.st := by
  cases he with
  | captured i m hx => exact (h.quiet hx).congr rfl rfl rfl rfl
  | written i v hx => exact (h.quiet hx).congr rfl rfl rfl rfl
  | handed hw => exact (treat_rfLive h _ _).quiet (dispose_quiet _ _ _ _)
  | gated hx => exact h.quiet hx
  | arrived c rails raw hx => exact (arrive_rfLive (h.quiet hx)).recompute
  | moduleOn n => exact (rebalance_rfLive (setModule_rfLive h)).recompute
  | ramped => exact ceilingReached_rfLive (rampStep_rfLive h)
  | input i level hx => exact inputChange_rfLive (h.quiet hx)
  | edge i level => exact debounced_rfLive h
  | proofFailed i => exact setSourceState_rfLive h
  | proofEnded => exact h
  | blankEnded hst =>
    refine transition_rfLive (setBlank_rfLive h) (by simp [setBlank, hst]) fun hr => ?_
    split at hr
    next hempty => exact hempty
    next => cases hr
  | holdEnded hst hh =>
    obtain ⟨-, hempty⟩ := h.hold hh
    exact enterState_rfLive h.1 (fun _ => hempty) h.muted h.eSys_le rfl
  | judged v computed hx => exact changeVerdict_rfLive (h.quiet hx)
  | loads hl he => rw [he]; exact h
  | loadEnds hl he =>
    obtain ⟨-, -, -, -, -, -, -, hctl, -⟩ := hstart.2 hl
    refine loadComplete_rfLive (by rw [he]; exact h) ?_
    rw [he]
    exact congrArg Controller.state hctl

/-- The conclusion of an event leaves RF as it is. -/
theorem conclude_rfSafe {s : State} {e : Ev} (h : rfSafe e.st) : rfSafe (conclude s e) := by
  unfold rfSafe at h ⊢
  simpa using h

theorem rfSafe_reset : rfSafe State.reset :=
  ⟨rfl, fun h => absurd h (by decide), fun _ => rfl, Nat.le_refl _, fun h => absurd rfl h⟩

/-- Settles O54: every kind of event keeps RF safe. -/
theorem rfSafetyInvariant : Obligations.RFSafetyInvariant := by
  intro s t hstart hsafe hstep
  obtain ⟨rest, hoccurs⟩ := step_occurs hstep
  replace hstart : startsAtLoad { s with pending := rest } := hstart
  replace hsafe : rfSafe { s with pending := rest } := hsafe
  generalize ({ s with pending := rest } : State) = x at hstart hsafe hoccurs
  cases hoccurs with
  | quiet h => exact h.rfSafe hsafe
  | reset k => exact rfSafe_reset
  | released hr hx ht =>
    refine ht.rfSafe ?_
    obtain ⟨-, -, -, -, -, -, -, hctl, -⟩ := hstart.2 (hstart.1 hr)
    rw [hx]
    unfold rfSafe at hsafe ⊢
    rw [hr, hctl] at hsafe
    rw [hctl]
    exact hsafe
  | granted hq hx => exact hx.rfSafe hsafe
  | event hr he => exact conclude_rfSafe (happens_rfLive ⟨hr, hsafe⟩ hstart he).2

end Sys2Proof.Machine
end

section
namespace Sys2Proof.Machine

open Sys2Proof Sys2Proof.Config

/-! ## Every ceiling is what its inputs make it (R44 to R49, R56) -/

/-- The two marks are what the verdict and the source states make them (R46, R47). -/
def marked (s : State) : Prop :=
  s.ceil.fallbackMark = (s.checker.verdict != .agree) ∧ s.ceil.unprovenMark = anyUnproven s.arc

theorem ceilingsRight.marked {s : State} (h : ceilingsRight s) : marked s := by
  obtain ⟨-, -, -, hmarks⟩ := h
  exact hmarks

/-- Computed with the marks right, the ceilings are right. -/
theorem marked.recompute {s : State} (h : marked s) : ceilingsRight (recompute s) := by
  refine ⟨rfl, fun n => ?_, fun n => ?_, h⟩
  · exact Vector.getElem_ofFn n.isLt
  · simp only [Machine.recompute, Fin.getElem_fin, Vector.getElem_ofFn]
    split
    · exact Nat.min_le_right _ _
    · exact Nat.zero_le _

/-- What `ceilingsRight` reads: the ceilings but E_sys and the ramp timer, and the inputs of a raw ceiling. -/
theorem ceilingsRight.congr {s t : State} (h : ceilingsRight s)
    (hc : t.ceil = { s.ceil with eSys := t.ceil.eSys, ramp := t.ceil.ramp })
    (hchans : t.meas.chans = s.meas.chans) (hmis : t.mis.factor = s.mis.factor) (hmods : t.mods = s.mods)
    (hparam : ∀ off, off = offLicence ∨ off = offFallbackCap ∨ off = offUnprovenCap →
      t.param off = s.param off)
    (hverdict : t.checker.verdict = s.checker.verdict)
    (hsources : anyUnproven t.arc = anyUnproven s.arc) : ceilingsRight t := by
  have hraw : rawSystem t = rawSystem s := by
    unfold rawSystem
    rw [hchans, hmis, hmods, hparam _ (.inl rfl), hparam _ (.inr (.inl rfl)), hparam _ (.inr (.inr rfl)), hc]
  have hmod (n : Fin 8) : rawModule t n = rawModule s n := by
    unfold rawModule
    rw [hchans, hmods]
  unfold ceilingsRight at h ⊢
  rw [hraw, hverdict, hsources, hc]
  simp only [hmod]
  exact h

theorem quiet.ceilingsRight {s t : State} (h : quiet s t) (hs : ceilingsRight s) : ceilingsRight t := by
  rw [h]; exact hs

/-- The controller's events bear on no raw ceiling and on no module's. -/
theorem onlyController.ceilingsRight {s t : State} (h : onlyController s t) (hs : ceilingsRight s) :
    ceilingsRight t := by
  rw [h]; exact hs

theorem Measured.marked {s x : State} (h : Measured s x) (hs : marked s) : marked x := by
  rw [h.frame]; exact hs

theorem modulesMoved.marked {s y : State} (h : modulesMoved s y) (hs : marked s) : marked y := by
  rw [h]; exact hs

/-! ### The sources and the unproven mark -/

theorem anyUnproven_iff {a : Arc} : anyUnproven a = true ↔
    ∃ i : Fin 5, (a.sources[i]).state = .failed ∨ (a.sources[i]).state = .suspect := by
  unfold anyUnproven
  simp only [List.any_eq_true, Vector.mem_toList_iff, Vector.mem_iff_getElem, Bool.or_eq_true, beq_iff_eq]
  constructor
  · rintro ⟨_, ⟨i, hi, rfl⟩, h⟩; exact ⟨⟨i, hi⟩, h⟩
  · rintro ⟨i, h⟩; exact ⟨_, ⟨i.val, i.isLt, rfl⟩, h⟩

/-- Only the states of the sources make the unproven mark. -/
theorem anyUnproven_congr {a b : Arc} (h : ∀ i : Fin 5, (b.sources[i]).state = (a.sources[i]).state) :
    anyUnproven b = anyUnproven a :=
  Bool.eq_iff_iff.mpr (by simp only [anyUnproven_iff, h])

/-- What a change of one source keeps of it, it keeps of every source. -/
theorem setSource_proj {α : Type} (p : Source → α) {f : Source → Source} (hf : ∀ x, p (f x) = p x) (i : Fin 5)
    (s : State) (j : Fin 5) : p ((setSource i f s).arc.sources[j]) = p (s.arc.sources[j]) := by
  have hset : (setSource i f s).arc.sources[j] =
      if i.val = j.val then f (s.arc.sources[i]) else s.arc.sources[j] := Vector.getElem_set i.isLt j.isLt
  rw [hset]
  split
  next h => rw [hf, Fin.ext h]
  next => rfl

/-- A debouncer's change bears on no ceiling. -/
theorem setSource_ceilingsRight {f : Source → Source} (hf : ∀ x, (f x).state = x.state) (i : Fin 5)
    {s : State} (h : ceilingsRight s) : ceilingsRight (setSource i f s) :=
  h.congr rfl rfl rfl rfl (fun _ _ => rfl) rfl (anyUnproven_congr (setSource_proj Source.state hf i s))

/-- A change of a source state judges the unproven mark and computes the ceilings again (R91). -/
theorem setSourceState_ceilingsRight {i : Fin 5} {st : SourceState} {s : State}
    (h : s.ceil.fallbackMark = (s.checker.verdict != .agree)) : ceilingsRight (setSourceState i st s) :=
  marked.recompute ⟨h, rfl⟩

/-! ### The events -/

theorem onlyController.trans {s x t : State} (h : onlyController s x) (k : onlyController x t) :
    onlyController s t := by
  unfold onlyController at k ⊢
  rw [h] at k
  exact k

theorem arcEvent_only (o : Origin) (e : Ev) : onlyController e.st (arcEvent o e).st := by
  unfold arcEvent
  dsimp only
  split <;> rfl

theorem disposeEdge_ceilingsRight {i : Fin 5} {e : Ev} (h : ceilingsRight e.st) :
    ceilingsRight (disposeEdge i e).st := by
  obtain ⟨hfallback, -⟩ := h.marked
  unfold disposeEdge
  split
  · exact setSourceState_ceilingsRight hfallback
  split
  · exact h
  split
  · exact (arcEvent_only _ e).ceilingsRight h
  · exact (arcEvent_only _ e).ceilingsRight h
  · exact h
  · exact h
  all_goals
    split
    · exact h
    unfold suspectEdge
    split
    · exact h
    · exact setSourceState_ceilingsRight hfallback

theorem debounced_ceilingsRight {i : Fin 5} {level : Bool} {e : Ev} (h : ceilingsRight e.st) :
    ceilingsRight (debounced i level e).st := by
  have hset := setSource_ceilingsRight (f := fun x => { x with accepted := level, change := none })
    (by intro _; rfl) i h
  unfold debounced
  dsimp only
  split
  · exact disposeEdge_ceilingsRight hset
  · exact hset

theorem inputChange_ceilingsRight {i : Fin 5} {level : Bool} {e : Ev} (h : ceilingsRight e.st) :
    ceilingsRight (inputChange i level e).st := by
  unfold inputChange
  dsimp only
  split
  · exact h
  split
  · exact setSource_ceilingsRight (by intro _; rfl) i h
  split
  · exact h
  split
  · exact debounced_ceilingsRight h
  · exact setSource_ceilingsRight (by intro _; rfl) i h

theorem applySource_ceilingsRight {i : Fin 5} {old new : Word} {s : State} (h : ceilingsRight s) :
    ceilingsRight (applySource i old new s) := by
  obtain ⟨hfallback, -⟩ := h.marked
  unfold applySource
  split
  · exact setSource_ceilingsRight (by intro _; rfl) i (setSourceState_ceilingsRight hfallback)
  split
  · refine setSource_ceilingsRight (by intro _; rfl) i (setSourceState_ceilingsRight ?_)
    unfold abandonProof
    split <;> exact hfallback
  · exact h

theorem takeCommand_ceilingsRight {w : Word} {e : Ev} (h : ceilingsRight e.st) :
    ceilingsRight (takeCommand w e).st := by
  unfold takeCommand
  split
  · exact h
  · unfold takeResume
    dsimp only
    split
    · exact onlyController.ceilingsRight rfl h
    · exact h
  · unfold takeStandby
    split
    all_goals exact onlyController.ceilingsRight rfl h
  · unfold takeRelease
    split
    · exact onlyController.ceilingsRight rfl h
    · exact h
  · have hproof : ceilingsRight (startProof (cmdSource w) e.st).1 := by
      unfold startProof
      split
      · exact h
      split
      · exact h
      split
      · split <;> exact h
      · exact h
    exact hproof
  · exact h

/-- A stored word other than a limit or a cap bears on no ceiling. -/
theorem store_ceilingsRight {s : State} (h : ceilingsRight s) {off : Nat} (v : Word)
    (hoff : off ≠ offLicence ∧ off ≠ offFallbackCap ∧ off ≠ offUnprovenCap) :
    ceilingsRight (s.store off v) := by
  refine h.congr rfl rfl rfl rfl (fun k hk => ?_) rfl rfl
  have hne : off - 1 ≠ k - 1 := by
    unfold offLicence offFallbackCap offUnprovenCap at hoff hk
    omega
  simp [State.param, State.word, State.store, hne]

theorem presentChange_moved (old new : Word) (e : Ev) (n : Fin 8) :
    modulesMoved e.st (presentChange old new e n).st := by
  unfold presentChange
  split
  · rfl
  split
  · split
    · rfl
    · split <;> rfl
  · rfl

/-- A present mask's handoff leaves the marks; its ceilings are computed after it. -/
theorem applyPresentMask_marked {old new : Word} {e : Ev} (h : marked e.st) :
    marked (applyPresentMask old new e).st := by
  unfold applyPresentMask
  split
  · exact h
  · refine (rebalance_measured _).marked ?_
    refine List.foldlRecOn (motive := fun e' : Ev => marked e'.st) _ _ h fun e' he' n _ => ?_
    exact (presentChange_moved old new e' n).marked he'

theorem applyParam_ceilingsRight {off : Nat} {old v : Word} {e : Ev} (h : ceilingsRight e.st) :
    ceilingsRight (applyParam off old v (e.upd fun s => s.store off v)).st := by
  have hmarked : marked (e.st.store off v) := h.marked
  unfold applyParam
  split
  · exact (applyPresentMask_marked (e := e.upd fun s => s.store off v) hmarked).recompute
  split
  · exact hmarked.recompute
  next hcap =>
  have hstore : ceilingsRight (e.st.store off v) := store_ceilingsRight h v (by tauto)
  split
  · exact hstore
  split
  · exact hstore
  split
  · exact inputChange_ceilingsRight hstore
  · exact hstore

/-- The words of a channel's record that act at once are followed by the computation of the ceilings, and
the others act later. -/
theorem applyChannelWord_ceilingsRight {c : Fin 25} {k : Nat} {old : ChanCfg} {e : Ev}
    (h : ceilingsRight e.st) :
    ceilingsRight ((applyChannelWord c k old e).upd
      (if k = 0 ∨ k = 3 ∨ k = 4 ∨ k = 7 then recompute else id)).st := by
  have hmarked : marked (applyChannelWord c k old e).st := by
    unfold applyChannelWord
    split
    · exact (applyChannelWord0_measured c old e).marked h.marked
    · exact (applyFoldSetting_measured c e).marked h.marked
    · exact (applyFoldSetting_measured c e).marked h.marked
    · exact (applyFoldSetting_measured c e).marked h.marked
    · exact h.marked
  split
  · exact hmarked.recompute
  next hk =>
    unfold applyChannelWord
    split
    · exact absurd (.inl rfl) hk
    · exact absurd (.inr (.inl rfl)) hk
    · exact absurd (.inr (.inr (.inl rfl))) hk
    · exact absurd (.inr (.inr (.inr rfl))) hk
    · exact h

/-- The offset of a configuration word that is no system parameter is no limit's and no cap's. -/
theorem Target.offset_apart {t : Target} {off : Nat} (ho : t.offset = some off)
    (ht : ∀ p, t ≠ .param p) : off ≠ offLicence ∧ off ≠ offFallbackCap ∧ off ≠ offUnprovenCap := by
  unfold offLicence offFallbackCap offUnprovenCap
  cases t <;> simp only [Target.offset, Option.some.injEq, reduceCtorEq] at ho <;> subst ho
  case param p => exact absurd rfl (ht p)
  all_goals
    simp only [offConsumed, offReference, offLevelMask, offLevelAddr, offGuardMask, offGuardA, offGuardB,
      offGuardC, offSource, offChannel]
    omega

theorem applyConfig_ceilingsRight {s : State} {t : Target} {off : Nat} {v : Word} {e : Ev}
    (ho : t.offset = some off) (h : ceilingsRight e.st) : ceilingsRight (applyConfig s t off v e).st := by
  by_cases hp : ∃ p, t = .param p
  · obtain ⟨p, rfl⟩ := hp
    obtain rfl : p = off := Option.some.inj ho
    exact applyParam_ceilingsRight h
  · have hstore : ceilingsRight (e.st.store off v) :=
      store_ceilingsRight h v (Target.offset_apart ho (not_exists.mp hp))
    unfold applyConfig
    dsimp only
    split
    · exact hstore
    · exact absurd ⟨_, rfl⟩ hp
    · show ceilingsRight (applyLevelMask (s.word off) v (e.st.store off v))
      rw [show applyLevelMask (s.word off) v (e.st.store off v) = _ from applyLevelMask_only ..]
      exact hstore
    · exact applySource_ceilingsRight hstore
    · exact applyChannelWord_ceilingsRight (e := e.upd fun s => s.store off v) hstore
    · exact hstore

theorem treat_ceilingsRight {s : State} (h : ceilingsRight s) (t : Target) (w : Word) :
    ceilingsRight (treat s t w).1.st := by
  rcases treat_cases s t w with k | k | ⟨i, k⟩ | ⟨off, v, ho, k⟩
  · exact k.ceilingsRight h
  · rw [k]; exact takeCommand_ceilingsRight h
  · rw [k]; exact h
  · rw [k]; exact (sweepAfter_quiet _ _).ceilingsRight (applyConfig_ceilingsRight ho h)

/-- A ramp step stops at the raw ceiling. -/
theorem rampStep_ceilingsRight {s : State} (h : ceilingsRight s) : ceilingsRight (rampStep s) := by
  obtain ⟨hraw, hmod, hle, hmarks⟩ := h
  refine ⟨hraw, hmod, fun n => ?_, hmarks⟩
  simp only [rampStep, Fin.getElem_fin, Vector.getElem_ofFn]
  split
  · exact rampUp_le (hle n)
  · exact hle n

theorem changeVerdict_ceilingsRight {v : Verdict} {computed : Word} {e : Ev} (h : ceilingsRight e.st) :
    ceilingsRight (changeVerdict v computed e).st := by
  obtain ⟨-, hunproven⟩ := h.marked
  unfold changeVerdict
  split
  · exact h
  · exact marked.recompute ⟨rfl, hunproven⟩

/-! ### Before load completion -/

/-- With F_bal at 0, as it stands until load completion, C_raw is 0 whatever the shadow holds. -/
theorem rawSystem_of_fBal_zero {s : State} (h : s.mods.fBal = 0) : rawSystem s = 0 := by
  obtain ⟨-, hle⟩ := rawSystem_leastOf s
  exact Nat.le_zero.mp (h ▸ hle (by simp))

/-- A part whose ceilings, modules, verdict and sources are in their reset state has its ceilings right. -/
theorem ceilingsRight_of_reset {s : State} (hc : s.ceil = Ceilings.reset) (hm : s.mods = Modules.reset)
    (hv : s.checker = Checker.reset) (ha : s.arc.sources = Arc.reset.sources) : ceilingsRight s := by
  have hmod (n : Fin 8) : rawModule s n = 0 := rawModule_off (by simp [hm, Modules.reset])
  have hunproven : anyUnproven s.arc = anyUnproven Arc.reset := anyUnproven_congr fun i => by rw [ha]
  unfold ceilingsRight
  rw [rawSystem_of_fBal_zero (by rw [hm]; rfl), hc, hv, hunproven]
  refine ⟨rfl, fun n => ?_, fun n => Nat.le_refl _, rfl, by decide⟩
  rw [hmod n]
  simp [Ceilings.reset]

/-- A source that keeps its state or becomes UNTESTED is not unproven by it. -/
theorem setSource_proven {f : Source → Source} (hf : ∀ x, (f x).state = x.state ∨ (f x).state = .untested)
    (i : Fin 5) {s : State} (h : anyUnproven s.arc = false) : anyUnproven (setSource i f s).arc = false := by
  rw [← Bool.not_eq_true, anyUnproven_iff] at h ⊢
  rintro ⟨j, hj⟩
  have hset : (setSource i f s).arc.sources[j] =
      if i.val = j.val then f (s.arc.sources[i]) else s.arc.sources[j] := Vector.getElem_set i.isLt j.isLt
  rw [hset] at hj
  split at hj
  · rcases hf s.arc.sources[i] with k | k <;> rw [k] at hj
    · exact h ⟨i, hj⟩
    · simp at hj
  · exact h ⟨j, hj⟩

/-- Load completion starts sources as UNTESTED, never as FAILED or SUSPECT (R80). -/
theorem startArc_proven {s : State} (h : anyUnproven s.arc = false) : anyUnproven (startArc s).arc = false := by
  refine List.foldlRecOn (motive := fun x : State => anyUnproven x.arc = false) _ _ h fun x hx i _ => ?_
  split
  · exact setSource_proven (by intro _; exact .inl rfl) i
      (setSource_proven (by intro _; exact .inr rfl) i hx)
  · exact hx

theorem started_proven {s : State} (h : anyUnproven s.arc = false) : anyUnproven (started s).arc = false := by
  have harc : (startImage (prestarted s)).arc = s.arc := by rw [startImage_only (prestarted s)]; rfl
  exact startArc_proven (s := startImage (prestarted s)) (by rw [harc]; exact h)

/-- Load completion leaves the marks as they stand while no source is unproven, and computes the ceilings. -/
theorem loadComplete_ceilingsRight {e : Ev} (h : ceilingsRight e.st) (hun : e.st.ceil.unprovenMark = false) :
    ceilingsRight (loadComplete e).st := by
  obtain ⟨hfallback, hunproven⟩ := h.marked
  have hproven := started_proven (hunproven.symm.trans hun)
  have hmarked : marked (started e.st) := by
    refine ⟨?_, ?_⟩
    · rw [started_only e.st]; exact hfallback
    · rw [hproven, started_only e.st]; exact hun
  rw [loadComplete_st]
  exact marked.recompute (s := enterState .standby (started e.st)) hmarked

theorem happens_ceilingsRight {s : State} {e : Ev} (h : ceilingsRight s) (hstart : startsAtLoad s)
    (he : Happens s e) : ceilingsRight e.st := by
  cases he with
  | captured i m hx => exact (hx.ceilingsRight h).congr rfl rfl rfl rfl (fun _ _ => rfl) rfl rfl
  | written i v hx => exact (hx.ceilingsRight h).congr rfl rfl rfl rfl (fun _ _ => rfl) rfl rfl
  | handed hw => exact (dispose_quiet _ _ _ _).ceilingsRight (treat_ceilingsRight h _ _)
  | gated hx => exact hx.ceilingsRight h
  | arrived c rails raw hx => exact ((arrive_measured ..).marked (hx.ceilingsRight h).marked).recompute
  | moduleOn n =>
    exact ((rebalance_measured _).marked ((setModule_moved ..).marked h.marked)).recompute
  | ramped =>
    unfold ceilingReached
    split
    · exact onlyController.ceilingsRight rfl (rampStep_ceilingsRight h)
    · exact rampStep_ceilingsRight h
  | input i level hx => exact inputChange_ceilingsRight (hx.ceilingsRight h)
  | edge i level => exact debounced_ceilingsRight h
  | proofFailed i => exact setSourceState_ceilingsRight h.marked.1
  | proofEnded => exact h
  | blankEnded hst => exact onlyController.ceilingsRight rfl h
  | holdEnded hst hh => exact onlyController.ceilingsRight rfl h
  | judged v computed hx => exact changeVerdict_ceilingsRight (hx.ceilingsRight h)
  | loads hl he =>
    obtain ⟨hchecker, -, -, hmods, hceil, -, harc, -⟩ := hstart.2 hl
    rw [he]
    exact ceilingsRight_of_reset hceil hmods hchecker (congrArg Arc.sources harc :)
  | loadEnds hl he =>
    obtain ⟨hchecker, -, -, hmods, hceil, -, harc, -⟩ := hstart.2 hl
    refine loadComplete_ceilingsRight ?_ ?_
    · rw [he]
      exact ceilingsRight_of_reset hceil hmods hchecker (congrArg Arc.sources harc :)
    · rw [he]
      exact congrArg Ceilings.unprovenMark hceil

theorem conclude_ceilingsRight {s : State} {e : Ev} (h : ceilingsRight e.st) : ceilingsRight (conclude s e) := by
  have hshadow : (conclude s e).shadow = e.st.shadow := by simp
  exact h.congr (by simp) (by simp) (by simp) (by simp) (fun off _ => param_congr hshadow off) (by simp) (by simp)

/-- Settles O55: every kind of event computes the ceilings whose inputs it changes. -/
theorem ceilingInvariant : Obligations.CeilingInvariant := by
  intro s t _ hstart hright hstep
  obtain ⟨rest, hoccurs⟩ := step_occurs hstep
  replace hstart : startsAtLoad { s with pending := rest } := hstart
  replace hright : ceilingsRight { s with pending := rest } := hright
  generalize ({ s with pending := rest } : State) = x at hstart hright hoccurs
  cases hoccurs with
  | quiet h => exact h.ceilingsRight hright
  | reset k => exact ceilingsRight_of_reset rfl rfl rfl rfl
  | released hr hx ht =>
    refine ht.ceilingsRight ?_
    rw [hx]
    exact hright
  | granted hq hx => exact hx.ceilingsRight hright
  | event hr he => exact conclude_ceilingsRight (happens_ceilingsRight hright hstart he)

end Sys2Proof.Machine
end

section
namespace Sys2Proof.Machine

open Sys2Proof Sys2Proof.Config

/-! ## What the controller and the arc monitor bear on -/

/-- `t` differs from `s` in the ceilings, the arc monitor and the controller at most. -/
def steered (s t : State) : Prop := t = { s with ceil := t.ceil, arc := t.arc, ctl := t.ctl }

theorem steered.trans {s x t : State} (h : steered s x) (k : steered x t) : steered s t := by
  unfold steered at k ⊢
  rw [h] at k
  exact k

theorem steered.image {s t : State} (h : steered s t) : t.image = s.image := by rw [h]

theorem onlyController.steered {s t : State} (h : onlyController s t) : steered s t := by
  unfold Machine.steered
  rw [h]

theorem setSourceState_steered (i : Fin 5) (st : SourceState) (s : State) : steered s (setSourceState i st s) :=
  rfl

theorem proofPass_steered (i : Fin 5) (e : Ev) : steered e.st (proofPass i e).st :=
  let x := setStimulus i false (setProof (some { source := i, phase := .passed }) e.st.arc.proofTimer e.st)
  have hx : steered e.st x := rfl
  hx.trans (setSourceState_steered i .passed x)

theorem suspectEdge_steered (i : Fin 5) (e : Ev) : steered e.st (suspectEdge i e).st := by
  unfold suspectEdge
  split
  · rfl
  · exact setSourceState_steered i .suspect e.st

theorem disposeEdge_steered (i : Fin 5) (e : Ev) : steered e.st (disposeEdge i e).st := by
  unfold disposeEdge
  split
  · exact proofPass_steered i e
  split
  · rfl
  split
  · exact (arcEvent_only _ e).steered
  · exact (arcEvent_only _ e).steered
  · rfl
  · rfl
  all_goals
    split
    · rfl
    · exact suspectEdge_steered i e

theorem debounced_steered (i : Fin 5) (level : Bool) (e : Ev) : steered e.st (debounced i level e).st := by
  have hset : steered e.st (setSource i (fun x => { x with accepted := level, change := none }) e.st) := rfl
  unfold debounced
  dsimp only
  split
  · exact hset.trans (disposeEdge_steered i _)
  · exact hset

theorem inputChange_steered (i : Fin 5) (level : Bool) (e : Ev) : steered e.st (inputChange i level e).st := by
  unfold inputChange
  dsimp only
  split
  · rfl
  split
  · rfl
  split
  · rfl
  split
  · exact debounced_steered i level e
  · rfl

theorem applySource_steered (i : Fin 5) (old new : Word) (s : State) : steered s (applySource i old new s) := by
  have hset (x : State) (f : Source → Source) : steered x (setSource i f x) := rfl
  have habandon : steered s (abandonProof i s) := by
    unfold abandonProof
    split <;> rfl
  unfold applySource
  split
  · exact (setSourceState_steered i .untested s).trans (hset _ _)
  split
  · exact (habandon.trans (setSourceState_steered i .disabled _)).trans (hset _ _)
  · rfl

theorem takeCommand_steered (w : Word) (e : Ev) : steered e.st (takeCommand w e).st := by
  unfold takeCommand
  split
  · rfl
  · unfold takeResume
    dsimp only
    split <;> rfl
  · unfold takeStandby
    split <;> rfl
  · unfold takeRelease
    split <;> rfl
  · show steered e.st (setCommand 4 _ (startProof (cmdSource w) e.st).1)
    rw [startProof_arc]
    rfl
  · rfl

theorem changeVerdict_image (v : Verdict) (computed : Word) (e : Ev) :
    (changeVerdict v computed e).st.image = e.st.image := by
  unfold changeVerdict
  split <;> rfl

theorem modulesMoved.image {s y : State} (h : modulesMoved s y) : y.image = s.image := by rw [h]

theorem applyPresentMask_image (old new : Word) (e : Ev) : (applyPresentMask old new e).st.image = e.st.image := by
  unfold applyPresentMask
  split
  · rfl
  · rw [(rebalance_measured _).image]
    refine List.foldlRecOn (motive := fun e' : Ev => e'.st.image = e.st.image) _ _ rfl fun e' he' n _ => ?_
    exact (presentChange_moved old new e' n).image.trans he'

theorem applyParam_image (off : Nat) (old new : Word) (e : Ev) :
    (applyParam off old new e).st.image = e.st.image := by
  unfold applyParam
  split
  · exact applyPresentMask_image old new e
  split
  · rfl
  split
  · rfl
  split
  · rfl
  split
  · exact (inputChange_steered 4 _ e).image
  · rfl

theorem applyChannelWord_image (c : Fin 25) (k : Nat) (old : ChanCfg) (e : Ev) :
    (applyChannelWord c k old e).st.image = e.st.image := by
  unfold applyChannelWord
  split
  · exact (applyChannelWord0_measured c old e).image
  · exact (applyFoldSetting_measured c e).image
  · exact (applyFoldSetting_measured c e).image
  · exact (applyFoldSetting_measured c e).image
  · rfl

/-- Of the configuration words only the level enable mask bears on the drive image itself. -/
theorem applyConfig_image (s : State) (t : Target) (off : Nat) (v : Word) (e : Ev) :
    (applyConfig s t off v e).st.image = e.st.image ∨
    (applyConfig s t off v e).st.image = (applyLevelMask (s.word off) v (e.st.store off v)).image := by
  unfold applyConfig
  dsimp only
  split
  · exact .inl rfl
  · exact .inl (applyParam_image _ _ _ _)
  · exact .inr rfl
  · exact .inl (applySource_steered _ _ _ _).image
  · left
    dsimp only [Ev.upd_st]
    split
    · exact applyChannelWord_image _ _ _ (e.upd fun s => s.store off v)
    · exact applyChannelWord_image _ _ _ (e.upd fun s => s.store off v)
  · exact .inl rfl

/-! ## The drive image converges on its targets (R59, R60, R64, R69, R70) -/

/-- The image write queue holds one write a record at most, each of a tracking record (R69). -/
def queueRight (im : Image) : Prop :=
  (im.queue.map ImageWrite.entry).Nodup ∧
  ∀ e ∈ im.queue, ∃ r, im.recs[e.entry] = some r ∧ r.capture = .tracking

/-- Entry `i`'s record, if it tracks with nothing queued and nothing in flight, holds its target (R70). -/
def converged (c : Ceilings) (im : Image) (i : Fin 9) : Prop :=
  ∀ r, im.recs[i] = some r → r.capture = .tracking → r.inFlight = .none →
    i ∉ im.queue.map ImageWrite.entry → r.applied = targetOf c i r

/-- `imageRight` of a drive image beside ceilings. -/
def imageConverged (c : Ceilings) (im : Image) : Prop := queueRight im ∧ ∀ i, converged c im i

theorem imageRight_iff {s : State} : imageRight s ↔ imageConverged s.ceil s.image :=
  ⟨fun ⟨hnodup, htracking, hconv⟩ => ⟨⟨hnodup, htracking⟩, hconv⟩,
    fun ⟨⟨hnodup, htracking⟩, hconv⟩ => ⟨hnodup, htracking, hconv⟩⟩

/-- Of the ceilings only the governing one matters to an entry. -/
theorem converged.congr {c d : Ceilings} {im : Image} {i : Fin 9} (h : converged c im i)
    (hg : governing c i = governing d i) : converged d im i := by
  intro r hr ht hf hq
  rw [h r hr ht hf hq, targetOf, targetOf, hg]

/-! ### The queue -/

/-- R69: a write that waits keeps its place, and a new one goes to the end. -/
theorem enqueue_entries (i : Fin 9) (v : Nat) (q : List ImageWrite) :
    (enqueue i v q).map ImageWrite.entry =
      if i ∈ q.map ImageWrite.entry then q.map ImageWrite.entry else q.map ImageWrite.entry ++ [i] := by
  have hany : (q.any fun e => e.entry == i) = true ↔ i ∈ q.map ImageWrite.entry := by
    simp
  unfold enqueue
  by_cases hi : i ∈ q.map ImageWrite.entry
  · rw [if_pos (hany.mpr hi), if_pos hi, List.map_map]
    refine List.map_congr_left fun e _ => ?_
    rw [Function.comp_apply]
    split <;> rfl
  · rw [if_neg (mt hany.mp hi), if_neg hi, List.map_append]
    rfl

theorem mem_enqueue {i j : Fin 9} {v : Nat} {q : List ImageWrite} :
    j ∈ (enqueue i v q).map ImageWrite.entry ↔ j = i ∨ j ∈ q.map ImageWrite.entry := by
  rw [enqueue_entries]
  split
  next hi => exact ⟨.inr, by rintro (rfl | h); exacts [hi, h]⟩
  next => rw [List.mem_append, List.mem_singleton, or_comm]

theorem enqueue_nodup (i : Fin 9) (v : Nat) {q : List ImageWrite} (h : (q.map ImageWrite.entry).Nodup) :
    ((enqueue i v q).map ImageWrite.entry).Nodup := by
  rw [enqueue_entries]
  split
  next => exact h
  next hi => exact h.append (List.nodup_singleton i) (by simpa using hi)

theorem mem_dequeue_entry {i j : Fin 9} {q : List ImageWrite} :
    j ∈ (dequeue i q).map ImageWrite.entry ↔ j ≠ i ∧ j ∈ q.map ImageWrite.entry := by
  simp only [List.mem_map, mem_dequeue]
  constructor
  · rintro ⟨e, ⟨he, hne⟩, rfl⟩; exact ⟨hne, e, he, rfl⟩
  · rintro ⟨hne, e, he, rfl⟩; exact ⟨e, ⟨he, hne⟩, rfl⟩

theorem dequeue_nodup (i : Fin 9) {q : List ImageWrite} (h : (q.map ImageWrite.entry).Nodup) :
    ((dequeue i q).map ImageWrite.entry).Nodup :=
  h.sublist (List.filter_sublist.map _)

/-- `queueRight`, entry by entry. -/
theorem queueRight_iff {im : Image} : queueRight im ↔ (im.queue.map ImageWrite.entry).Nodup ∧
    ∀ i ∈ im.queue.map ImageWrite.entry, ∃ r, im.recs[i] = some r ∧ r.capture = .tracking := by
  unfold queueRight
  simp only [List.forall_mem_map]

/-! ### The scheduling rule -/

/-- What the scheduling rule does to the queue's entries, for a tracking record (R69). -/
theorem schedule_tracking {c : Ceilings} {i : Fin 9} {im : Image} {r : LevelRec} (hr : im.recs[i] = some r)
    (ht : r.capture = .tracking) :
    schedule c i im = if targetOf c i r = r.applied then { im with queue := dequeue i im.queue }
      else { im with queue := enqueue i (targetOf c i r) im.queue } := by
  unfold schedule
  rw [hr]
  exact if_pos ht

/-- A record that is absent or in CAPTURING takes no part. -/
theorem schedule_idle {c : Ceilings} {i : Fin 9} {im : Image}
    (h : ∀ r, im.recs[i] = some r → r.capture ≠ .tracking) : schedule c i im = im := by
  unfold schedule
  split
  · rfl
  next r hr => exact if_neg (h r hr)

theorem schedule_cases (c : Ceilings) (i : Fin 9) (im : Image) :
    (∃ r, im.recs[i] = some r ∧ r.capture = .tracking) ∨ schedule c i im = im := by
  by_cases h : ∃ r, im.recs[i] = some r ∧ r.capture = .tracking
  · exact .inl h
  · exact .inr (schedule_idle fun r hr ht => h ⟨r, hr, ht⟩)

/-- The rule moves its own entry in the queue and no other. -/
theorem mem_schedule_of_ne {c : Ceilings} {i j : Fin 9} (h : j ≠ i) (im : Image) :
    j ∈ (schedule c i im).queue.map ImageWrite.entry ↔ j ∈ im.queue.map ImageWrite.entry := by
  rcases schedule_cases c i im with ⟨r, hr, ht⟩ | k
  · rw [schedule_tracking hr ht]
    split
    · rw [mem_dequeue_entry]; simp [h]
    · rw [mem_enqueue]; simp [h]
  · rw [k]

theorem schedule_queueRight {c : Ceilings} {i : Fin 9} {im : Image} (h : queueRight im) :
    queueRight (schedule c i im) := by
  rw [queueRight_iff] at h ⊢
  obtain ⟨hnodup, htracking⟩ := h
  rw [schedule_recs]
  rcases schedule_cases c i im with ⟨r, hr, ht⟩ | k
  · rw [schedule_tracking hr ht]
    split
    · exact ⟨dequeue_nodup i hnodup, fun j hj => htracking j (mem_dequeue_entry.mp hj).2⟩
    · refine ⟨enqueue_nodup i _ hnodup, fun j hj => ?_⟩
      rcases mem_enqueue.mp hj with rfl | hj
      · exact ⟨r, hr, ht⟩
      · exact htracking j hj
  · rw [k]; exact ⟨hnodup, htracking⟩

/-- After the rule its entry has converged: the record holds its target, or a write of it waits (R70). -/
theorem schedule_converged (c : Ceilings) (i : Fin 9) (im : Image) : converged c (schedule c i im) i := by
  intro r hr ht _ hq
  rw [schedule_recs] at hr
  rw [schedule_tracking hr ht] at hq
  split at hq
  next heq => exact heq.symm
  next => exact absurd (mem_enqueue.mpr (.inl rfl)) hq

theorem schedule_converged_of_ne {c d : Ceilings} {i j : Fin 9} {im : Image} (h : j ≠ i)
    (hj : converged c im j) : converged c (schedule d i im) j := by
  intro r hr ht hf hq
  rw [schedule_recs] at hr
  exact hj r hr ht hf (mt (mem_schedule_of_ne h im).mpr hq)

/-- The rule run for the one entry that may not have converged. -/
theorem schedule_imageConverged {c : Ceilings} {i : Fin 9} {im : Image} (hq : queueRight im)
    (h : ∀ j, j ≠ i → converged c im j) : imageConverged c (schedule c i im) := by
  refine ⟨schedule_queueRight hq, fun j => ?_⟩
  by_cases hj : j = i
  · rw [hj]; exact schedule_converged c i im
  · exact schedule_converged_of_ne hj (h j hj)

/-- The drive image follows every ceiling an event has changed (R59, R70). -/
theorem imageReact_converges {c : Ceilings} {s : State} (h : imageConverged c s.image) :
    imageRight (imageReact c s) := by
  have hfold (l : List (Fin 9)) : ∀ im, queueRight im →
      (∀ j, converged s.ceil im j ∨ (j ∈ l ∧ governing c j ≠ governing s.ceil j)) →
      imageConverged s.ceil (l.foldl (fun im i =>
        if governing c i = governing s.ceil i then im else schedule s.ceil i im) im) := by
    induction l with
    | nil => exact fun im hq hj => ⟨hq, fun j => (hj j).resolve_right (by simp)⟩
    | cons i l ih =>
      intro im hq hj
      rw [List.foldl_cons]
      split
      next hsame =>
        refine ih im hq fun j => (hj j).imp_right fun ⟨hmem, hne⟩ => ⟨?_, hne⟩
        exact (List.mem_cons.mp hmem).resolve_left fun h => hne (h ▸ hsame)
      next =>
        refine ih _ (schedule_queueRight hq) fun j => ?_
        by_cases hji : j = i
        · rw [hji]; exact .inl (schedule_converged s.ceil i im)
        · refine (hj j).imp (schedule_converged_of_ne hji) fun ⟨hmem, hne⟩ => ⟨?_, hne⟩
          exact (List.mem_cons.mp hmem).resolve_left hji
  obtain ⟨hq, hconv⟩ := h
  refine imageRight_iff.mpr (hfold _ s.image hq fun j => ?_)
  by_cases hg : governing c j = governing s.ceil j
  · exact .inl ((hconv j).congr hg)
  · exact .inr ⟨List.mem_finRange j, hg⟩

theorem imageRight.congr {s t : State} (h : imageRight s) (hi : t.image = s.image) (hc : t.ceil = s.ceil) :
    imageRight t := by
  unfold imageRight at h ⊢
  rw [hi, hc]
  exact h

/-- What an event leaves of the drive image before its conclusion is right beside the ceilings it met. -/
theorem conclude_imageRight {s : State} {e : Ev} (h : imageConverged s.ceil e.st.image) :
    imageRight (conclude s e) := by
  rw [conclude_eq]
  have hreact := imageReact_converges (s := e.st) h
  exact hreact.congr (by simp) (by simp)

/-! ### Changes of one record -/

theorem updRec_recs (im : Image) (i j : Fin 9) (f : LevelRec → LevelRec) :
    (im.updRec i f).recs[j] = if j = i then (im.recs[i]).map f else im.recs[j] := by
  have hset : (im.updRec i f).recs[j] = if i.val = j.val then (im.recs[i]).map f else im.recs[j] :=
    Vector.getElem_set i.isLt j.isLt
  rw [hset]
  simp only [Fin.ext_iff, eq_comm]

/-- A record in TRACKING may change as long as it tracks, for any entry's place in the queue. -/
theorem updRec_queueRight {im : Image} (h : queueRight im) (i : Fin 9) {f : LevelRec → LevelRec}
    (hf : ∀ r, r.capture = .tracking → (f r).capture = .tracking) : queueRight (im.updRec i f) := by
  rw [queueRight_iff] at h ⊢
  obtain ⟨hnodup, htracking⟩ := h
  refine ⟨hnodup, fun j hj => ?_⟩
  obtain ⟨r, hr, ht⟩ := htracking j hj
  rw [updRec_recs]
  split
  next hji => rw [← hji, hr]; exact ⟨f r, rfl, hf r ht⟩
  next => exact ⟨r, hr, ht⟩

theorem updRec_converged_of_ne {c : Ceilings} {im : Image} {i j : Fin 9} {f : LevelRec → LevelRec} (h : j ≠ i)
    (hj : converged c im j) : converged c (im.updRec i f) j := by
  intro r hr
  rw [updRec_recs, if_neg h] at hr
  exact hj r hr

/-- A record changed and then scheduled (R63, R72, R75). -/
theorem rescheduled_imageConverged {c : Ceilings} {im : Image} (h : imageConverged c im) (i : Fin 9)
    {f : LevelRec → LevelRec} (hf : ∀ r, r.capture = .tracking → (f r).capture = .tracking) :
    imageConverged c (schedule c i (im.updRec i f)) :=
  schedule_imageConverged (updRec_queueRight h.1 i hf) fun j hj => updRec_converged_of_ne hj (h.2 j)

/-- A record whose write is in flight is not judged (R70). -/
theorem inFlight_converged {c : Ceilings} {im : Image} {i : Fin 9} {f : LevelRec → LevelRec}
    (hf : ∀ r, (f r).inFlight ≠ .none) : converged c (im.updRec i f) i := by
  intro r hr _ hnone
  rw [updRec_recs, if_pos rfl, Option.map_eq_some_iff] at hr
  obtain ⟨r', -, rfl⟩ := hr
  exact absurd hnone (hf r')

/-- An image write is granted: it leaves the queue and is in flight (R71). -/
theorem takeHead_imageRight {s : State} (h : imageRight s) {e : ImageWrite} {rest : List ImageWrite}
    (hq : s.image.queue = e :: rest) : imageRight (takeHead e rest s) := by
  obtain ⟨hright, hconv⟩ := imageRight_iff.mp h
  obtain ⟨hnodup, htracking⟩ := hright
  rw [hq, List.map_cons, List.nodup_cons] at hnodup
  rw [hq] at htracking
  have hrest : queueRight { s.image with queue := rest } :=
    ⟨hnodup.2, fun e' he' => htracking e' (List.mem_cons_of_mem _ he')⟩
  refine imageRight_iff.mpr ⟨updRec_queueRight hrest e.entry fun _ h => h, fun j => ?_⟩
  by_cases hj : j = e.entry
  · rw [hj]
    exact inFlight_converged (by simp)
  · refine updRec_converged_of_ne hj fun r hr ht hf hmem => hconv j r hr ht hf ?_
    rw [hq, List.map_cons, List.mem_cons]
    exact not_or.mpr ⟨hj, hmem⟩

/-- A host level word is taken: nothing of its record waits, and its write is in flight (R74). -/
theorem takeLevel_imageConverged {s : State} (h : imageRight s) (i : Fin 9) (w : Word) :
    imageConverged s.ceil (takeLevel i w s).image := by
  obtain ⟨hright, hconv⟩ := imageRight_iff.mp h
  rw [queueRight_iff] at hright
  obtain ⟨hnodup, htracking⟩ := hright
  have hrest : queueRight { s.image with queue := dequeue i s.image.queue } :=
    queueRight_iff.mpr ⟨dequeue_nodup i hnodup, fun j hj => htracking j (mem_dequeue_entry.mp hj).2⟩
  refine ⟨updRec_queueRight hrest i fun _ h => h, fun j => ?_⟩
  by_cases hj : j = i
  · rw [hj]
    exact inFlight_converged (by simp)
  · refine updRec_converged_of_ne hj fun r hr ht hf hmem => hconv j r hr ht hf fun hq => ?_
    exact hmem (mem_dequeue_entry.mpr ⟨hj, hq⟩)

/-! ### A new level enable mask -/

/-- The queue is empty and every record has converged: as a mask's handoff and load completion meet the
drive image. -/
def imageAtRest (c : Ceilings) (im : Image) : Prop := im.queue = [] ∧ ∀ i, converged c im i

theorem imageAtRest.imageConverged {c : Ceilings} {im : Image} (h : imageAtRest c im) : imageConverged c im :=
  ⟨by rw [queueRight, h.1]; exact ⟨List.nodup_nil, by simp⟩, h.2⟩

/-- A record removed, or put in CAPTURING. -/
theorem imageAtRest.set {c : Ceilings} {im : Image} (h : imageAtRest c im) (i : Fin 9) {o : Option LevelRec}
    (ho : ∀ r, o = some r → r.capture ≠ .tracking) : imageAtRest c { recs := im.recs.set i o, queue := [] } := by
  obtain ⟨hq, hconv⟩ := h
  refine ⟨rfl, fun j r hr ht hf _ => ?_⟩
  have hset : (im.recs.set i o)[j] = if i.val = j.val then o else im.recs[j] :=
    Vector.getElem_set i.isLt j.isLt
  rw [show (im.recs.set i o)[j] = some r from hr] at hset
  split at hset
  next => exact absurd ht (ho r hset.symm)
  next => exact hconv j r hset.symm ht hf (by simp [hq])

/-- A mask's handoff removes records and creates records that capture (R62, R65 to R67). -/
theorem applyLevelMask_atRest {c : Ceilings} {s : State} (h : imageAtRest c s.image) (old new : Word) :
    imageAtRest c (applyLevelMask old new s).image := by
  have hfold (p : Fin 9 → Bool) (f : State → Fin 9 → State)
      (hf : ∀ x i, imageAtRest c x.image → imageAtRest c (f x i).image) {x : State}
      (hx : imageAtRest c x.image) :
      imageAtRest c ((List.finRange 9).foldl (fun s i => if p i then f s i else s) x).image := by
    refine List.foldlRecOn (motive := fun y : State => imageAtRest c y.image) _ _ hx fun y hy i _ => ?_
    split
    · exact hf y i hy
    · exact hy
  have hremove (x : State) (i : Fin 9) (hx : imageAtRest c x.image) :
      imageAtRest c (removeRecord x i).image := by
    have hq : dequeue i x.image.queue = [] := by rw [hx.1]; rfl
    unfold removeRecord
    rw [hq]
    exact hx.set i (by simp)
  have hcreate (x : State) (i : Fin 9) (hx : imageAtRest c x.image) :
      imageAtRest c (createRecord x i).image := by
    have hset := hx.set i (o := some (newRecord (x.levelAddr i))) (by simp [newRecord])
    rw [← hx.1] at hset
    exact hset
  exact hfold (fun i => bit new i.val && !bit old i.val) createRecord hcreate
    (hfold (fun i => bit old i.val && !bit new i.val) removeRecord hremove h)

/-! ### Every event -/

theorem treat_imageConverged {s : State} (h : imageRight s) (hq : s.image.queue = []) (t : Target) (w : Word) :
    imageConverged s.ceil (treat s t w).1.st.image := by
  have hs := imageRight_iff.mp h
  rcases treat_cases s t w with k | k | ⟨i, k⟩ | ⟨off, v, -, k⟩
  · rw [k.image]; exact hs
  · rw [k, (takeCommand_steered w (Ev.of s)).image]; exact hs
  · rw [k]; exact takeLevel_imageConverged h i w
  · rw [k, (sweepAfter_quiet _ _).image]
    rcases applyConfig_image s t off v (Ev.of s) with him | him <;> rw [him]
    · exact hs
    · exact (applyLevelMask_atRest (s := s.store off v) ⟨hq, hs.2⟩ _ _).imageConverged

theorem started_image (s : State) : (started s).image = (startImage (prestarted s)).image := by
  have hrest (x : State) : (startChecker (startPublication x)).image = x.image := rfl
  exact (hrest _).trans (startArc_only _).image

/-- Load completion creates the enabled entries' records beside a drive image in its reset state (R62). -/
theorem loadComplete_imageConverged {c : Ceilings} {e : Ev} (h : e.st.image = Image.reset) :
    imageConverged c (loadComplete e).st.image := by
  have hrest : imageAtRest c (prestarted e.st).image := by
    rw [show (prestarted e.st).image = Image.reset from h]
    exact ⟨rfl, fun i r hr => by simp [Image.reset] at hr⟩
  have himage : (loadComplete e).st.image = (started e.st).image := rfl
  rw [himage, started_image]
  exact (applyLevelMask_atRest hrest _ _).imageConverged

theorem happens_imageConverged {s : State} {e : Ev} (h : imageRight s) (hstart : startsAtLoad s)
    (he : Happens s e) : imageConverged s.ceil e.st.image := by
  have hs := imageRight_iff.mp h
  cases he with
  | @captured i m x hx =>
    have hrun : imageConverged s.ceil (schedule x.ceil i (x.image.updRec i (seedRecord m.toNat))) := by
      rw [hx.ceil, hx.image]
      exact rescheduled_imageConverged hs i fun _ _ => rfl
    exact hrun
  | @written i v x hx =>
    have hrun : imageConverged s.ceil (schedule x.ceil i
        (x.image.updRec i fun r => { r with applied := v.toNat, inFlight := .none })) := by
      rw [hx.ceil, hx.image]
      exact rescheduled_imageConverged hs i fun _ ht => ht
    exact hrun
  | handed hw =>
    obtain ⟨-, -, -, hq, -⟩ := handoffWord_eq_some.mp hw
    rw [Ev.upd_st, (dispose_quiet _ _ _ _).image]
    exact treat_imageConverged h hq _ _
  | gated hx => rw [Ev.of_st, hx.image]; exact hs
  | arrived c rails raw hx =>
    have himage : (recompute (arrive c rails raw (Ev.of _)).st).image = s.image :=
      (arrive_measured ..).image.trans hx.image
    rw [Ev.upd_st, himage]; exact hs
  | moduleOn n =>
    have himage : (recompute (rebalance (setModule n .on none noneWord (Ev.of s))).st).image = s.image :=
      (rebalance_measured _).image
    rw [Ev.upd_st, himage]; exact hs
  | ramped =>
    unfold ceilingReached
    split <;> exact hs
  | input i level hx => rw [(inputChange_steered ..).image, Ev.of_st, hx.image]; exact hs
  | edge i level => rw [(debounced_steered ..).image]; exact hs
  | proofFailed i =>
    rw [Ev.draft_st, Ev.upd_st, (setSourceState_steered i .failed _).image]; exact hs
  | proofEnded => exact hs
  | blankEnded hst => exact hs
  | holdEnded hst hh => exact hs
  | judged v computed hx => rw [changeVerdict_image, Ev.of_st, hx.image]; exact hs
  | loads hl he => rw [he]; exact hs
  | loadEnds hl he =>
    obtain ⟨-, -, -, -, -, himage, -⟩ := hstart.2 hl
    exact loadComplete_imageConverged (by rw [he]; exact himage)

/-- Settles O56: the scheduling rule follows every change of a target, of an applied level and of a ceiling. -/
theorem driveImageInvariant : Obligations.DriveImageInvariant := by
  rintro s t ⟨-, hstart, -⟩ hright hstep
  obtain ⟨rest, hoccurs⟩ := step_occurs hstep
  replace hstart : startsAtLoad { s with pending := rest } := hstart
  replace hright : imageRight { s with pending := rest } := hright
  generalize ({ s with pending := rest } : State) = x at hstart hright hoccurs
  cases hoccurs with
  | quiet h => exact hright.congr h.image h.ceil
  | reset k => exact ⟨List.nodup_nil, by simp [State.reset, Image.reset], by simp [State.reset, Image.reset]⟩
  | released hr hx ht =>
    refine hright.congr ?_ ?_
    · rw [ht.image, hx]
    · rw [ht.ceil, hx]
  | granted hq hx => exact (takeHead_imageRight hright hq).congr hx.image hx.ceil
  | event hr he => exact conclude_imageRight (happens_imageConverged hright hstart he)

end Sys2Proof.Machine
end

section
namespace Sys2Proof.Machine

open Sys2Proof Sys2Proof.Config

/-! ## The ramp (R53 to R56, R113) -/

theorem exec_rampExpiry {s : State} (hr : s.resetHeld = false) (hramp : s.ceil.ramp ≠ none) :
    exec .rampExpiry s = .next (conclude s (ceilingReached ((Ev.of s).upd rampStep))) := by
  have : (!s.resetHeld && s.ceil.ramp.isSome) = true := by simp [hr, Option.isSome_iff_ne_none, hramp]
  show whenever _ _ _ = _
  rw [this]
  rfl

/-- R54: the ramp step of E_sys, in the statement's form. -/
theorem rampStep_eSys (s : State) : (rampStep s).ceil.eSys =
    if s.ctl.state.running = true ∧ s.ceil.eSys < s.ceil.cRaw
    then min (s.ceil.eSys + s.param offRampStep) s.ceil.cRaw else s.ceil.eSys := by
  simp only [rampStep, rampUp]
  cases s.ctl.state.running <;> simp

/-- R56: that of a module's effective ceiling. -/
theorem rampStep_eMod (s : State) (n : Fin 8) : (rampStep s).ceil.eMod[n] =
    if (s.mods.mods[n]).state = .on ∧ s.ceil.eMod[n] < s.ceil.mRaw[n]
    then min (s.ceil.eMod[n] + s.param offRampStep) s.ceil.mRaw[n] else s.ceil.eMod[n] := by
  simp only [rampStep, rampUp, Fin.getElem_fin, Vector.getElem_ofFn]
  rw [ite_and]

/-- R55, R113: in RESTART with E_sys at C_raw the controller goes to RUN with its STATE record. -/
theorem ceilingReached_runs {e : Ev} (h : e.st.ctl.state = .restart) (hc : e.st.ceil.eSys = e.st.ceil.cRaw) :
    ceilingReached e = ⟨{ e.st with ctl := { e.st.ctl with state := .run, inhibit := false } },
      e.out ++ [⟨.state, 2, 3, 20⟩]⟩ := by
  unfold ceilingReached
  rw [if_pos ⟨h, hc⟩]
  simp [transition, enterState, stateDraft, Ev.upd, Ev.draft, h, CtlState.running, CtlState.code,
    StateCause.code]

theorem ceilingReached_keeps {e : Ev} (h : ¬(e.st.ctl.state = .restart ∧ e.st.ceil.eSys = e.st.ceil.cRaw)) :
    ceilingReached e = e := if_neg h

/-- The event of a ramp expiry. -/
def ramped (s : State) : Ev := ceilingReached ((Ev.of s).upd rampStep)

/-- Beyond the ceilings a ramp expiry moves the controller at most. -/
theorem ramped_st (s : State) : (ramped s).st = { rampStep s with ctl := (ramped s).st.ctl } := by
  by_cases h : s.ctl.state = .restart ∧ (rampStep s).ceil.eSys = s.ceil.cRaw
  · rw [ramped, ceilingReached_runs h.1 h.2]; rfl
  · rw [ramped, ceilingReached_keeps h]; rfl

/-- What a ramp expiry leaves before the arbiter's grants. -/
def rampLeaves (s : State) : State := submitAll (ramped s).out (imageReact s.ceil (ramped s).st)

theorem rampLeaves_ceil (s : State) : (rampLeaves s).ceil = (rampStep s).ceil := by
  have hst : (ramped s).st.ceil = (rampStep s).ceil := by rw [ramped_st]
  exact hst

theorem rampLeaves_changesOnly (s : State) : changesOnly [.ceil, .image, .ctl, .pub] s (rampLeaves s) := by
  unfold rampLeaves
  rw [ramped_st]
  refine ⟨rfl, fun b hb => ?_⟩
  cases b <;> simp at hb <;> simp [sameBlock]

theorem rampLeaves_imageFollows (s : State) : imageFollows s (rampLeaves s) :=
  imageFollows_concluded (by rw [ramped_st]; rfl)

theorem rampLeaves_runs {s : State} (h : s.ctl.state = .restart) (hc : (rampStep s).ceil.eSys = s.ceil.cRaw) :
    (rampLeaves s).ctl = { s.ctl with state := .run, inhibit := false } ∧
    submitted [⟨.state, 2, 3, 20⟩] s (rampLeaves s) := by
  unfold rampLeaves
  rw [ramped, ceilingReached_runs h hc]
  exact ⟨rfl, submitted_concluded rfl rfl⟩

theorem rampLeaves_keeps {s : State} (h : s.ctl.state ≠ .restart ∨ (rampStep s).ceil.eSys ≠ s.ceil.cRaw) :
    (rampLeaves s).ctl = s.ctl ∧ (rampLeaves s).pub = s.pub := by
  unfold rampLeaves
  rw [ramped, ceilingReached_keeps (not_and_or.mpr h)]
  exact ⟨rfl, rfl⟩

/-- Ramp steps add up, as far as the raw ceiling. -/
theorem rampUp_iterate {step raw eff : Nat} (h : eff ≤ raw) (m : Nat) :
    (rampUp step raw)^[m] eff = min (eff + m * step) raw := by
  induction m with
  | zero => simp [h]
  | succ m ih =>
    rw [Function.iterate_succ_apply', ih, Nat.succ_mul]
    unfold rampUp
    split <;> omega

/-- `m` steps are fewer than the ceiling of `d / step` exactly when they do not make up `d`. -/
theorem lt_stepsNeeded_iff {step : Nat} (h : 1 ≤ step) (d m : Nat) :
    m < (d + (step - 1)) / step ↔ m * step < d := by
  rw [Nat.lt_iff_add_one_le, Nat.le_div_iff_mul_le h, Nat.succ_mul]
  omega

/-- Settles O22: one ramp step and the move to RUN; the expiries a rise needs, by adding up steps. -/
theorem rampExpiryRaisesTheCeilings : Obligations.RampExpiryRaisesTheCeilings := by
  constructor
  · intro s hr hramp step e
    have hsys : (rampLeaves s).ceil.eSys = e := by rw [rampLeaves_ceil]; exact rampStep_eSys s
    have he : (rampStep s).ceil.eSys = e := rampStep_eSys s
    have hle : e ≤ s.ceil.eSys + step := by simp only [e]; split <;> omega
    have hmuted (hm : s.ctl.state.running = false) : e = s.ceil.eSys := by simp [e, hm]
    refine ⟨rampLeaves s, exec_rampExpiry hr hramp, ?_, hsys, hsys ▸ hle, fun hm => hsys.trans (hmuted hm),
      ?_, ?_, ?_, ?_, ?_, fun hst hc => rampLeaves_runs hst (he.trans hc),
      fun h => rampLeaves_keeps (by rwa [he]), rampLeaves_imageFollows s, rampLeaves_changesOnly s⟩
    · rw [rampLeaves_ceil]; rfl
    · intro n
      rw [rampLeaves_ceil]; exact rampStep_eMod s n
    all_goals rw [rampLeaves_ceil]; rfl
  · intro step raw eff hlo hhi heff hraw
    refine ⟨by omega, ?_⟩
    intro n
    simp only [rampUp_iterate heff]
    have hn := lt_stepsNeeded_iff hlo (raw - eff)
    refine ⟨?_, fun m hm => ?_⟩
    · have := mt (hn n).mpr (Nat.lt_irrefl n)
      omega
    · have := (hn m).mp hm
      omega

end Sys2Proof.Machine
end

section
namespace Sys2Proof.Machine

open Sys2Proof Sys2Proof.Config

/-! ## System parameters that act at their handoff (R149, R150) -/

/-- R150: saturation into a range. -/
theorem saturate_eq {lo hi : Nat} (hlo : lo ≤ hi) (hhi : hi ≤ 65535) (w : Word) :
    saturate lo hi w = word (max lo (min hi w.toNat)) := by
  apply BitVec.eq_of_toNat_eq
  have := w.isLt
  unfold saturate word
  split
  · simp only [BitVec.toNat_ofNat]; omega
  · split <;> simp only [BitVec.toNat_ofNat] <;> omega

theorem word_toNat {n : Nat} (h : n ≤ 65535) : (word n).toNat = n := by
  rw [word, BitVec.toNat_ofNat]; omega

/-- R150: every parameter but the two masks is taken with its saturated value. -/
theorem judge_param {s : State} {off lo hi : Nat} (w : Word) (hmask : off ≠ offPresentMask ∧ off ≠ offAlertMask)
    (hrange : paramRange off = (lo, hi)) (hlo : lo ≤ hi) (hhi : hi ≤ 65535) :
    s.judge (.param off) w = .taken (word (max lo (min hi w.toNat))) := by
  rw [State.judge, judgeParam, if_neg hmask.1, if_neg hmask.2, hrange, saturate_eq hlo hhi]

/-- The event of a stored parameter, before the blocks act on it. -/
def paramStored (s : State) (off : Nat) (v : Word) : Ev := (Ev.of s).upd fun s => s.store off v

/-- The rest of a taken word's handoff: a sweep starts, the write is issued and its outcome noted. -/
def posted (a w v : Word) (s : State) : State :=
  ((startSweep s).updLink fun l => l.outcome (outcomeOf w v)).begin .hostWrite a (.write v)

/-- The handoff of a parameter that is taken with value `v`. -/
theorem handoff_param {kind : State → Word → Word → Bool} {s : State} {a w v : Word} {off : Nat}
    (hw : s.handoffWord = some (a, w)) (ht : s.target a = .param off) (hk : kind s a w = true)
    (hj : s.judge (.param off) w = .taken v) :
    let x := applyParam off (s.word off) v (paramStored s off v)
    handoffOf kind s = .next (submitAll x.out (imageReact s.ceil (posted a w v x.st))) := by
  intro x
  have htreat : treat s (s.target a) w = (x.upd startSweep, .forward v .hostWrite) := by
    rw [ht]
    simp only [treat, hj]
    rfl
  rw [handoff_forward hw hk htreat]
  rfl

section Posted
variable {s x : State} {a w v : Word}

theorem posted_sweepStarted (h : x.checker = s.checker) : sweepStarted s (posted a w v x) := by
  rw [sweepStarted, ← h]; rfl

theorem posted_forwarded (hp : x.port = s.port) (hl : x.link = s.link) :
    forwarded s (posted a w v x) a w v .hostWrite := by
  refine forwarded_of ?_ ?_
  · rw [← hp]; rfl
  · rw [← hl]; rfl

end Posted

/-- The handoff of a parameter that submits no record and changes no ceiling. -/
theorem handoff_param_posted {kind : State → Word → Word → Bool} {s : State} {a w v : Word} {off : Nat}
    (hw : s.handoffWord = some (a, w)) (ht : s.target a = .param off) (hk : kind s a w = true)
    (hj : s.judge (.param off) w = .taken v) {x : Ev}
    (hx : applyParam off (s.word off) v (paramStored s off v) = x) (hout : x.out = [])
    (hc : x.st.ceil = s.ceil) : handoffOf kind s = .next (posted a w v x.st) := by
  have hexec := handoff_param hw ht hk hj
  rw [hx] at hexec
  dsimp only at hexec
  rwa [hout, submitAll_nil, imageReact_of_ceil (s := posted a w v x.st) hc] at hexec

/-- What a parameter's handoff leaves of the other blocks when it acts on no ceiling. -/
theorem posted_stored {s x : State} {a w v : Word} {off : Nat} (h1 : 1 ≤ off) (h2 : off ≤ 0x121)
    (hx : x = { s.store off v with mis := x.mis, arc := x.arc, ctl := x.ctl }) :
    wordStored off v s (posted a w v x) ∧ sweepStarted s (posted a w v x) ∧
      forwarded s (posted a w v x) a w v .hostWrite ∧
      changesOnly [.shadow, .checker, .mis, .arc, .ctl, .port, .link] s (posted a w v x) := by
  refine ⟨wordStored_congr (u := s.store off v) (by rw [hx]; rfl) (wordStored_store v h1 h2),
    posted_sweepStarted (by rw [hx]; rfl), posted_forwarded (by rw [hx]; rfl) (by rw [hx]; rfl),
    by rw [hx]; rfl, fun b hb => ?_⟩
  rw [hx]
  cases b <;> simp at hb <;> simp [sameBlock, posted]

/-- A parameter just stored, as it is read. -/
theorem param_paramStored (s : State) {off : Nat} (h1 : 1 ≤ off) (h2 : off ≤ 0x121) (v : Word) :
    (paramStored s off v).st.param off = v.toNat :=
  congrArg BitVec.toNat (wordStored_store v h1 h2).1

section ParamHandoff
variable {s : State} {a w : Word} {off : Nat} (hw : s.handoffWord = some (a, w))
  (ht : s.target a = .param off)
include ht

theorem isTarget_isParam {offs : List Nat} (h : off ∈ offs) : isTarget (isParam offs) s a w = true := by
  simp [isTarget, isParam, ht, h]

include hw

/-- LIMIT_CAP_WRITE (R48, R52). -/
theorem exec_limitCapWrite (hoff : off = 0x004 ∨ off = 0x011 ∨ off = 0x012) :
    ∃ t, exec .limitCapWrite s = .next t ∧
      let v := word (min 4096 w.toNat)
      wordStored off v s t ∧ sweepStarted s t ∧ forwarded s t a w v .hostWrite ∧
      ceilingsFollow s.ceil.eSys s.ceil.eMod t ∧ marksKept s t ∧ imageFollows s t ∧
      changesOnly [.shadow, .checker, .ceil, .image, .port, .link] s t := by
  have hrange : paramRange off = (0, 4096) := by rcases hoff with rfl | rfl | rfl <;> rfl
  have hmask : off ≠ offPresentMask ∧ off ≠ offAlertMask := by
    unfold offPresentMask offAlertMask; omega
  have hjudge := judge_param (s := s) w hmask hrange (by decide) (by decide)
  rw [Nat.zero_max] at hjudge
  generalize hv : word (min 4096 w.toNat) = v at hjudge
  have hx : applyParam off (s.word off) v (paramStored s off v) = (paramStored s off v).upd recompute := by
    rcases hoff with rfl | rfl | rfl <;> rfl
  have htreat : treat s (s.target a) w =
      (((paramStored s off v).upd recompute).upd startSweep, .forward v .hostWrite) := by
    rw [ht, ← hx]
    simp only [treat, hjudge]
    rfl
  have hk : isTarget (isParam limitParams) s a w = true :=
    isTarget_isParam ht (by rcases hoff with rfl | rfl | rfl <;> decide)
  obtain ⟨t, hexec, hshadow, hsweep, hforward, hmeas, hmis, hmods, hctl, harc, hsub, hceil, hmarks, himage,
    hpending, hblocks⟩ := handoff_raw hw hk htreat (by rfl) ⟨rfl, rfl, rfl⟩
  refine ⟨t, hexec, wordStored_congr hshadow (wordStored_store v (by omega) (by omega)), hsweep, hforward,
    hceil, hmarks, himage, hpending, fun b hb => ?_⟩
  cases b
  case meas => exact hmeas
  case mis => exact hmis
  case mods => exact hmods
  case ctl => exact hctl
  case arc => exact harc
  case pub => exact hsub
  all_goals exact hblocks _ (by simp at hb ⊢)

/-- MISMATCH_PARAMETER_WRITE (R33). -/
theorem exec_mismatchParameterWrite (hoff : off = 0x00D ∨ off = 0x00E ∨ off = 0x00F ∨ off = 0x010) :
    ∃ t, exec .mismatchParameterWrite s = .next t ∧
      let v := max 1 (min (if off = 0x010 then 15 else 4096) w.toNat)
      wordStored off (word v) s t ∧ sweepStarted s t ∧ forwarded s t a w (word v) .hostWrite ∧
      t.mis = { s.mis with count := if off = 0x010 then min s.mis.count v else s.mis.count } ∧
      changesOnly [.shadow, .checker, .mis, .port, .link] s t := by
  have hrange : paramRange off = (1, if off = 0x010 then 15 else 4096) := by
    rcases hoff with rfl | rfl | rfl | rfl <;> rfl
  have hmask : off ≠ offPresentMask ∧ off ≠ offAlertMask := by
    unfold offPresentMask offAlertMask; omega
  have hjudge := judge_param (s := s) w hmask hrange (by split <;> omega) (by split <;> omega)
  have hk : isTarget (isParam mismatchParams) s a w = true :=
    isTarget_isParam ht (by rcases hoff with rfl | rfl | rfl | rfl <;> decide)
  generalize hv : max 1 (min (if off = 0x010 then 15 else 4096) w.toNat) = v at hjudge
  have hx : applyParam off (s.word off) (word v) (paramStored s off (word v)) =
      (paramStored s off (word v)).upd (if off = 0x010 then trimMismatch else id) := by
    rcases hoff with rfl | rfl | rfl | rfl <;> rfl
  have hexec := handoff_param_posted hw ht hk hjudge hx rfl (by split <;> rfl)
  obtain ⟨hstored, hsweep, hforward, hpending, hblocks⟩ :=
    posted_stored (s := s) (a := a) (w := w) (v := word v) (off := off)
      (x := (if off = 0x010 then trimMismatch else id) (s.store off (word v)))
      (by omega) (by omega) (by split <;> rfl)
  refine ⟨_, hexec, hstored, hsweep, hforward, ?_, hpending, fun b hb => ?_⟩
  · by_cases h10 : off = 0x010
    · subst h10
      have hv' : (word v).toNat = v := word_toNat (by rw [← hv, if_pos rfl]; omega)
      have hparam := param_paramStored s (by decide) (by decide : offPm ≤ 0x121) (word v)
      rw [hv'] at hparam
      simp only [if_true]
      exact congrArg (fun p => { s.mis with count := min s.mis.count p }) hparam
    · simp only [h10, if_false]
      rfl
  · cases b
    case arc => split <;> rfl
    case ctl => split <;> rfl
    all_goals exact hblocks _ (by simp at hb ⊢)

/-- INTERRUPTION_WINDOW_WRITE (R103). -/
theorem exec_interruptionWindowWrite (hoff : off = 0x009) :
    ∃ t, exec .interruptionWindowWrite s = .next t ∧
      let v := max 1 (min 600 w.toNat)
      wordStored off (word v) s t ∧ sweepStarted s t ∧ forwarded s t a w (word v) .hostWrite ∧
      t.ctl = { s.ctl with
        list := s.ctl.list.filter fun e => decide ((s.ms - e.time).toNat < v * 1000) } ∧
      changesOnly [.shadow, .checker, .ctl, .port, .link] s t := by
  subst hoff
  have hjudge := judge_param (s := s) (off := 0x009) w (by decide) rfl (by decide) (by decide)
  generalize hv : max 1 (min 600 w.toNat) = v at hjudge
  have hx : applyParam 0x009 (s.word 0x009) (word v) (paramStored s 0x009 (word v)) =
      (paramStored s 0x009 (word v)).upd trimInterruptions := rfl
  have hexec := handoff_param_posted hw ht (kind := isTarget (isParam [offWindow]))
    (isTarget_isParam ht (by decide)) hjudge hx rfl rfl
  obtain ⟨hstored, hsweep, hforward, hpending, hblocks⟩ :=
    posted_stored (s := s) (a := a) (w := w) (v := word v) (off := 0x009)
      (x := trimInterruptions (s.store 0x009 (word v))) (by decide) (by decide) rfl
  refine ⟨_, hexec, hstored, hsweep, hforward, ?_, hpending, fun b hb => ?_⟩
  · have hparam := param_paramStored s (by decide) (by decide : offWindow ≤ 0x121) (word v)
    rw [word_toNat (by omega)] at hparam
    have hfilter : (s.ctl.list.filter fun e =>
        !aged s.ms ((paramStored s offWindow (word v)).st.param offWindow) e) =
        s.ctl.list.filter fun e => decide ((s.ms - e.time).toNat < v * 1000) := by
      rw [hparam]
      refine List.filter_congr fun e _ => ?_
      rw [aged, age, Bool.eq_iff_iff]
      simp only [Bool.not_eq_true', decide_eq_false_iff_not, decide_eq_true_eq, Nat.not_le]
    exact congrArg (fun l => { s.ctl with list := l }) hfilter
  · cases b
    case arc => rfl
    case mis => rfl
    all_goals exact hblocks _ (by simp at hb ⊢)

end ParamHandoff

/-! ### The surge level (R81, R82) -/

/-- R82: the comparator's output at a level `v`. -/
theorem inputLevel_paramStored (s : State) {v : Nat} (hv : v ≤ 65535) :
    (paramStored s offSurgeLevel (word v)).st.inputLevel 4 = decide (v ≤ s.arc.surgeInput) := by
  have hparam := param_paramStored s (by decide) (by decide : offSurgeLevel ≤ 0x121) (word v)
  rw [word_toNat hv] at hparam
  unfold State.inputLevel
  rw [dif_neg (by decide), hparam]
  rfl

/-- The surge level is no source word. -/
theorem sourceWord_paramStored (s : State) (v : Word) :
    (paramStored s offSurgeLevel v).st.sourceWord 4 = s.sourceWord 4 :=
  (wordStored_store v (by decide) (by decide)).2 _ (by decide) (by decide)

/-- R81, R85: the pending change of a watched source whose input comes to `level`, with a debounce of `d` µs. -/
def changeAfter (level : Bool) (d : Nat) (x : Source) : Option Pending :=
  if level = x.accepted then none else if x.change = none then some { level := level, micros := d } else x.change

/-- R81: the transition comes at once. -/
def atOnce (level : Bool) (d : Nat) (x : Source) : Prop :=
  x.state ≠ .disabled ∧ level ≠ x.accepted ∧ x.change = none ∧ d = 0

section InputChange
variable {i : Fin 5} {level : Bool} {e : Ev}

/-- A disabled source's input is not watched. -/
theorem inputChange_disabled (h : (e.st.arc.sources[i]).state = .disabled) : inputChange i level e = e :=
  if_pos h

theorem setSource_congr {f g : Source → Source} (i : Fin 5) (s : State)
    (h : f (s.arc.sources[i]) = g (s.arc.sources[i])) : setSource i f s = setSource i g s := by
  unfold setSource upd
  rw [h]

theorem setSource_id (i : Fin 5) (s : State) : setSource i id s = s := by
  have hset : upd s.arc.sources i id = s.arc.sources := Vector.set_getElem_self i.isLt
  unfold setSource
  rw [hset]

/-- R81: a pending change is cancelled, goes on, or begins, unless the transition comes at once. -/
theorem inputChange_waits (h : (e.st.arc.sources[i]).state ≠ .disabled)
    (hw : ¬atOnce level (srcDebounce (e.st.sourceWord i)) (e.st.arc.sources[i])) :
    inputChange i level e = e.upd
      (setSource i fun x => { x with change := changeAfter level (srcDebounce (e.st.sourceWord i)) x }) := by
  have hset {c : Option Pending} (hc : c = changeAfter level (srcDebounce (e.st.sourceWord i)) (e.st.arc.sources[i])) :
      e.upd (setSource i fun x => { x with change := c }) = e.upd
        (setSource i fun x => { x with change := changeAfter level (srcDebounce (e.st.sourceWord i)) x }) :=
    congrArg (fun s => { e with st := s }) (setSource_congr i e.st (by rw [hc]))
  have hkeep : e.upd (setSource i fun x => { x with change := (e.st.arc.sources[i]).change }) = e := by
    have hset : setSource i (fun x => { x with change := (e.st.arc.sources[i]).change }) e.st = e.st :=
      (setSource_congr (g := id) i e.st rfl).trans (setSource_id i e.st)
    exact congrArg (fun s => { e with st := s }) hset
  unfold inputChange changeAfter at *
  dsimp only
  rw [if_neg h]
  split
  next hl => exact hset (by rw [if_pos hl])
  next hl =>
    split
    next hc =>
      rw [← hset, hkeep]
      rw [if_neg hl, if_neg (Option.isSome_iff_ne_none.mp hc)]
    next hc =>
      have hnone : (e.st.arc.sources[i]).change = none := by simpa using hc
      rw [if_neg fun hd => hw ⟨h, hl, hnone, hd⟩]
      exact hset (by rw [if_neg hl, if_pos hnone])

/-- R81: with no debounce the transition is part of the event. -/
theorem inputChange_atOnce (h : atOnce level (srcDebounce (e.st.sourceWord i)) (e.st.arc.sources[i])) :
    inputChange i level e = debounced i level e := by
  obtain ⟨hst, hl, hc, hd⟩ := h
  unfold inputChange
  dsimp only
  rw [if_neg hst, if_neg hl, if_neg (by rw [hc]; decide), if_pos hd]

end InputChange

/-! A debounced transition does not see the sweep, the port and the link, so these may be moved before it. -/

theorem setSourceState_posted (i : Fin 5) (st : SourceState) (a w v : Word) (e : Ev) :
    (e.upd (posted a w v)).upd (setSourceState i st) = (e.upd (setSourceState i st)).upd (posted a w v) := by
  have hst (s : State) : setSourceState i st (posted a w v s) = posted a w v (setSourceState i st s) := rfl
  simp only [Ev.upd, hst]

theorem arcEvent_posted (o : Origin) (a w v : Word) (e : Ev) :
    arcEvent o (e.upd (posted a w v)) = (arcEvent o e).upd (posted a w v) := by
  have hadd : addInterruption o (e.upd (posted a w v)) = (addInterruption o e).upd (posted a w v) := rfl
  have hlockout : ((addInterruption o e).upd (posted a w v)).st.atLockout = (addInterruption o e).st.atLockout :=
    rfl
  unfold arcEvent
  dsimp only
  rw [hadd, hlockout]
  split <;> rfl

theorem suspectEdge_posted (i : Fin 5) (a w v : Word) (e : Ev) :
    suspectEdge i (e.upd (posted a w v)) = (suspectEdge i e).upd (posted a w v) := by
  have harc : (e.upd (posted a w v)).st.arc = e.st.arc := rfl
  unfold suspectEdge
  rw [harc]
  split
  · rfl
  · rw [setSourceState_posted]; rfl

/-- R93: the proof test's part of a PASS. -/
def endWaiting (i : Fin 5) (s : State) : State :=
  setStimulus i false (setProof (some { source := i, phase := .passed }) s.arc.proofTimer s)

theorem proofPass_eq (i : Fin 5) (e : Ev) :
    proofPass i e = ((e.upd (endWaiting i)).upd (setSourceState i .passed)).draft (proofDraft i true) := rfl

theorem proofPass_posted (i : Fin 5) (a w v : Word) (e : Ev) :
    proofPass i (e.upd (posted a w v)) = (proofPass i e).upd (posted a w v) := by
  have hend : (e.upd (posted a w v)).upd (endWaiting i) = (e.upd (endWaiting i)).upd (posted a w v) := rfl
  rw [proofPass_eq, proofPass_eq, hend, setSourceState_posted]
  rfl

theorem disposeEdge_posted (i : Fin 5) (a w v : Word) (e : Ev) :
    disposeEdge i (e.upd (posted a w v)) = (disposeEdge i e).upd (posted a w v) := by
  have harc : (e.upd (posted a w v)).st.arc = e.st.arc := rfl
  have hctl : (e.upd (posted a w v)).st.ctl = e.st.ctl := rfl
  unfold disposeEdge
  rw [harc, hctl, proofPass_posted, arcEvent_posted, suspectEdge_posted]
  split
  · rfl
  split
  · rfl
  split
  · rfl
  · rfl
  · rfl
  · rfl
  all_goals split <;> rfl

theorem debounced_posted (i : Fin 5) (level : Bool) (a w v : Word) (e : Ev) :
    debounced i level (e.upd (posted a w v)) = (debounced i level e).upd (posted a w v) := by
  let x := e.upd (setSource i fun x => { x with accepted := level, change := none })
  have hset : (e.upd (posted a w v)).upd (setSource i fun x => { x with accepted := level, change := none }) =
      x.upd (posted a w v) := rfl
  have hword : (x.upd (posted a w v)).st.sourceWord i = x.st.sourceWord i := rfl
  unfold debounced
  dsimp only
  rw [hset, hword, disposeEdge_posted]
  split <;> rfl

/-- A pending change is over with the transition. -/
theorem debounced_pending (i : Fin 5) (level : Bool) (c : Option Pending) (e : Ev) :
    debounced i level (e.upd (setSource i fun x => { x with change := c })) = debounced i level e := by
  have hset : (e.upd (setSource i fun x => { x with change := c })).upd
      (setSource i fun x => { x with accepted := level, change := none }) =
      e.upd (setSource i fun x => { x with accepted := level, change := none }) := by
    simp [Ev.upd, setSource, upd]
  unfold debounced
  rw [hset]

/-- A source's debouncer: its accepted level and its pending change (R81). -/
def Source.debouncer (x : Source) : Bool × Option Pending := (x.accepted, x.change)

theorem setSourceState_debouncer (i : Fin 5) (st : SourceState) (s : State) (j : Fin 5) :
    ((setSourceState i st s).arc.sources[j]).debouncer = (s.arc.sources[j]).debouncer :=
  setSource_proj Source.debouncer (by intro _; rfl) i s j

/-- The disposal of an edge moves source states, and no debouncer (R86). -/
theorem disposeEdge_debouncer (i j : Fin 5) (e : Ev) :
    ((disposeEdge i e).st.arc.sources[j]).debouncer = (e.st.arc.sources[j]).debouncer := by
  have harc (o : Origin) : (arcEvent o e).st.arc.sources = e.st.arc.sources := by rw [arcEvent_only o e]
  unfold disposeEdge
  split
  · exact setSourceState_debouncer i .passed (endWaiting i e.st) j
  split
  · rfl
  split
  · simp only [harc]
  · simp only [harc]
  · rfl
  · rfl
  all_goals
    split
    · rfl
    unfold suspectEdge
    split
    · rfl
    · exact setSourceState_debouncer i .suspect e.st j

theorem debounced_debouncer (i : Fin 5) (level : Bool) (e : Ev) :
    ((debounced i level e).st.arc.sources[i]).debouncer = (level, none) := by
  have hset : ((setSource i (fun x => { x with accepted := level, change := none }) e.st).arc.sources[i]).debouncer =
      (level, none) := by
    simp [setSource, upd, Source.debouncer]
  unfold debounced
  dsimp only
  split
  · rw [disposeEdge_debouncer]; exact hset
  · exact hset

/-! ### The handoff of a surge level -/

theorem exec_debouncedTransition {i : Fin 5} {s : State} {p : Pending} (hr : s.resetHeld = false)
    (hst : (s.arc.sources[i]).state ≠ .disabled) (hc : (s.arc.sources[i]).change = some p) :
    exec (.debouncedTransition i) s = .next (conclude s (debounced i p.level (Ev.of s))) := by
  have hguard : (!s.resetHeld && (s.arc.sources[i]).state != .disabled) = true := by
    rw [hr, Bool.not_false, Bool.true_and, bne_iff_ne]
    exact hst
  show execDebouncedTransition i s = _
  unfold execDebouncedTransition
  rw [hc]
  dsimp only
  rw [hguard]
  rfl

/-- The state with a surge level taken and a change of source 4 pending. -/
def surgePending (a w v : Word) (p : Pending) (s : State) : State :=
  posted a w v (setSource 4 (fun x => { x with change := some p }) (s.store offSurgeLevel v))

theorem surgePending_source (a w v : Word) (p : Pending) (s : State) :
    (surgePending a w v p s).arc.sources[(4 : Fin 5)] = { s.arc.sources[(4 : Fin 5)] with change := some p } :=
  Vector.getElem_set_self (by decide)

/-- The transition at once is that of DEBOUNCED_TRANSITION on the state with the change pending (R81, R86). -/
theorem exec_debouncedTransition_pending {s : State} {a w v : Word} {p : Pending} (hr : s.resetHeld = false)
    (hst : (s.arc.sources[(4 : Fin 5)]).state ≠ .disabled) :
    let x := debounced 4 p.level (paramStored s offSurgeLevel v)
    exec (.debouncedTransition 4) (surgePending a w v p s) =
      .next (submitAll x.out (imageReact s.ceil (posted a w v x.st))) := by
  intro x
  have hsource := surgePending_source a w v p s
  have hx : debounced 4 p.level (Ev.of (surgePending a w v p s)) = x.upd (posted a w v) := by
    have hpending : Ev.of (surgePending a w v p s) =
        ((paramStored s offSurgeLevel v).upd (setSource 4 fun x => { x with change := some p })).upd
          (posted a w v) := rfl
    rw [hpending, debounced_posted, debounced_pending]
  have hexec := exec_debouncedTransition (i := 4) (s := surgePending a w v p s) (p := p) hr
    (by rw [hsource]; exact hst) (by rw [hsource])
  rw [hx, conclude_eq, settle_of_busy (by simp [posted])] at hexec
  exact hexec

/-- What a parameter's handoff leaves of the other blocks when it acts on the arc monitor alone. -/
theorem posted_arc {s x : State} {a w v : Word} {off : Nat} (h1 : 1 ≤ off) (h2 : off ≤ 0x121)
    (hx : x = { s.store off v with arc := x.arc }) :
    wordStored off v s (posted a w v x) ∧ sweepStarted s (posted a w v x) ∧
      forwarded s (posted a w v x) a w v .hostWrite ∧
      changesOnly [.shadow, .checker, .arc, .port, .link] s (posted a w v x) := by
  obtain ⟨hstored, hsweep, hforward, hpending, hblocks⟩ := posted_stored (s := s) (a := a) (w := w) (v := v)
    (x := x) h1 h2 (by rw [hx])
  refine ⟨hstored, hsweep, hforward, hpending, fun b hb => ?_⟩
  cases b
  case mis => rw [hx]; rfl
  case ctl => rw [hx]; rfl
  all_goals exact hblocks _ (by simp at hb ⊢)

section SurgeOutcome
variable {s : State} {a w : Word} {v : Nat} (hw : s.handoffWord = some (a, w))
  (ht : s.target a = .param offSurgeLevel) (hv : v = max 1 (min 4096 w.toNat))
include hv

/-- The saturated level is stored, and source 4's input comes to the comparator's output. -/
theorem applyParam_surgeLevel : applyParam offSurgeLevel (s.word offSurgeLevel) (word v)
    (paramStored s offSurgeLevel (word v)) =
      inputChange 4 (decide (v ≤ s.arc.surgeInput)) (paramStored s offSurgeLevel (word v)) := by
  rw [← inputLevel_paramStored s (v := v) (by omega)]
  rfl

theorem judge_surgeLevel : s.judge (.param offSurgeLevel) w = .taken (word v) :=
  hv ▸ judge_param w (by decide) rfl (by decide) (by decide)

include hw ht

/-- A disabled source 4 does not hear of the level. -/
theorem surgeLevelWrite_disabled (hst : (s.arc.sources[(4 : Fin 5)]).state = .disabled) :
    exec .surgeLevelWrite s = .next (posted a w (word v) (s.store offSurgeLevel (word v))) :=
  handoff_param_posted hw ht (isTarget_isParam ht (by decide)) (judge_surgeLevel hv)
    ((applyParam_surgeLevel hv).trans (inputChange_disabled hst)) rfl rfl

/-- At most a pending change begins or is cancelled. -/
theorem surgeLevelWrite_waits (hst : (s.arc.sources[(4 : Fin 5)]).state ≠ .disabled)
    (hwait : ¬atOnce (decide (v ≤ s.arc.surgeInput)) (srcDebounce (s.sourceWord 4)) s.arc.sources[(4 : Fin 5)]) :
    exec .surgeLevelWrite s = .next (posted a w (word v) (setSource 4 (fun x => { x with
      change := changeAfter (decide (v ≤ s.arc.surgeInput)) (srcDebounce (s.sourceWord 4)) x })
        (s.store offSurgeLevel (word v)))) := by
  rw [← sourceWord_paramStored s (word v)] at hwait ⊢
  exact handoff_param_posted hw ht (isTarget_isParam ht (by decide)) (judge_surgeLevel hv)
    ((applyParam_surgeLevel hv).trans (inputChange_waits hst hwait)) rfl rfl

/-- With no debounce the transition is part of the handoff. -/
theorem surgeLevelWrite_atOnce
    (honce : atOnce (decide (v ≤ s.arc.surgeInput)) (srcDebounce (s.sourceWord 4)) s.arc.sources[(4 : Fin 5)]) :
    let x := debounced 4 (decide (v ≤ s.arc.surgeInput)) (paramStored s offSurgeLevel (word v))
    exec .surgeLevelWrite s = .next (submitAll x.out (imageReact s.ceil (posted a w (word v) x.st))) := by
  have hexec := handoff_param hw ht (isTarget_isParam (offs := [offSurgeLevel]) ht (by decide))
    (judge_surgeLevel hv)
  rw [← sourceWord_paramStored s (word v)] at honce
  rw [applyParam_surgeLevel hv, inputChange_atOnce honce] at hexec
  exact hexec

end SurgeOutcome

/-- What a handoff that only the controller and the arc monitor act on leaves of the other blocks. -/
theorem steered_concluded {s : State} {a w v : Word} {off : Nat} {x : Ev} (h1 : 1 ≤ off) (h2 : off ≤ 0x121)
    (hx : steered (s.store off v) x.st) :
    let t := submitAll x.out (imageReact s.ceil (posted a w v x.st))
    wordStored off v s t ∧ sweepStarted s t ∧ forwarded s t a w v .hostWrite ∧
      changesOnly [.shadow, .checker, .ceil, .image, .arc, .ctl, .port, .link, .pub] s t := by
  intro t
  have hframe : ∀ b, b ∉ [.shadow, .ceil, .arc, .ctl] → sameBlock s x.st b := by
    intro b hb
    rw [hx]
    cases b <;> simp at hb <;> simp [sameBlock]
  have hshadow : x.st.shadow = (s.store off v).shadow := by rw [hx]
  have hpending : x.st.pending = s.pending := by rw [hx]; rfl
  have hchecker : x.st.checker = s.checker := hframe .checker (by simp)
  have hport : x.st.port = s.port := hframe .port (by simp)
  have hlink : x.st.link = s.link := hframe .link (by simp)
  refine ⟨wordStored_congr (u := s.store off v) (by simp [t, posted, hshadow]) (wordStored_store v h1 h2), ?_,
    forwarded_of (by simp [t, posted, hport]) (by simp [t, posted, hlink]), by simp [t, posted, hpending],
    fun b hb => ?_⟩
  · simp [sweepStarted, t, posted, startSweep, hchecker, offFirstCovered]
  · have hkept := hframe b fun h => hb (by simp at h ⊢; tauto)
    cases b <;> simp at hb <;> simpa [sameBlock, t, posted] using hkept

/-- Settles O46: each parameter by its own handoff, and the surge level by what source 4's input does. -/
theorem parametersThatActAtTheirHandoff : Obligations.ParametersThatActAtTheirHandoff := by
  intro s a w off hw ht
  refine ⟨exec_limitCapWrite hw ht, exec_mismatchParameterWrite hw ht, exec_interruptionWindowWrite hw ht, ?_⟩
  rintro rfl v level x d began change once
  by_cases hst : x.state = .disabled
  · obtain ⟨hstored, hsweep, hforward, hblocks⟩ := posted_arc (s := s) (a := a) (w := w) (v := word v)
      (off := offSurgeLevel) (x := s.store offSurgeLevel (word v)) (by decide) (by decide) rfl
    exact ⟨_, surgeLevelWrite_disabled hw ht rfl hst, hstored, hsweep, hforward, fun _ => rfl,
      fun h => absurd hst h, fun _ => hblocks, fun h => absurd hst h.1⟩
  by_cases honce : once
  · obtain ⟨hstored, hsweep, hforward, hblocks⟩ := steered_concluded (a := a) (w := w) (by decide) (by decide)
      (debounced_steered 4 level (paramStored s offSurgeLevel (word v)))
    obtain ⟨haccepted, hchange⟩ := Prod.mk.inj
      (debounced_debouncer 4 level (paramStored s offSurgeLevel (word v)))
    obtain ⟨ustored, usweep, uforward, ublocks⟩ := posted_arc (s := s) (a := a) (w := w) (v := word v)
      (off := offSurgeLevel) (x := setSource 4 (fun x => { x with change := some ⟨level, 0⟩ })
        (s.store offSurgeLevel (word v))) (by decide) (by decide) rfl
    obtain ⟨hr, -⟩ := handoffWord_eq_some.mp hw
    exact ⟨_, surgeLevelWrite_atOnce hw ht rfl honce, hstored, hsweep, hforward, fun h => absurd h hst,
      fun _ h => absurd honce h, fun h => absurd honce h, fun _ => ⟨haccepted, hchange, hblocks,
        _, ustored, usweep, uforward, rfl, ublocks, exec_debouncedTransition_pending hr hst⟩⟩
  · obtain ⟨hstored, hsweep, hforward, hblocks⟩ := posted_arc (s := s) (a := a) (w := w) (v := word v)
      (off := offSurgeLevel) (x := setSource 4 (fun x => { x with change := changeAfter level d x })
        (s.store offSurgeLevel (word v))) (by decide) (by decide) rfl
    exact ⟨_, surgeLevelWrite_waits hw ht rfl hst honce, hstored, hsweep, hforward, fun h => absurd h hst,
      fun _ _ => rfl, fun _ => hblocks, fun h => absurd h honce⟩

end Sys2Proof.Machine
end

section
/-! # The drive image's commands (chapter 4, section 9.2)

The scheduling rule for one entry and for all the ceilings an event has changed, the completions that run it,
the host's level words, and the level enable mask. -/

namespace Sys2Proof.Machine

open Sys2Proof Sys2Proof.Config

/-! ## The queue and the scheduling rule (R60, R64, R69) -/

/-- Every entry's place in a scan of all entries: the lower ones before it, the higher ones after. -/
theorem finRange_split {n : Nat} (i : Fin n) : ∃ before after : List (Fin n),
    List.finRange n = before ++ i :: after ∧ (∀ j, j ∈ before ↔ j < i) ∧ ∀ j, j ∈ after ↔ i < j := by
  obtain ⟨before, after, h⟩ := List.append_of_mem (List.mem_finRange i)
  have hsorted := List.pairwise_lt_finRange n
  rw [h, List.pairwise_append, List.pairwise_cons] at hsorted
  obtain ⟨-, ⟨hafter, -⟩, hbefore⟩ := hsorted
  replace hbefore (j : Fin n) (hj : j ∈ before) : j < i := hbefore j hj i List.mem_cons_self
  have hall (j : Fin n) : j ∈ before ∨ j = i ∨ j ∈ after := by
    have hj := List.mem_finRange j
    rwa [h, List.mem_append, List.mem_cons] at hj
  refine ⟨before, after, h, fun j => ⟨hbefore j, fun hj => ?_⟩, fun j => ⟨hafter j, fun hj => ?_⟩⟩
  · rcases hall j with hb | rfl | ha
    · exact hb
    · exact absurd hj (lt_irrefl _)
    · exact absurd hj (hafter j ha).asymm
  · rcases hall j with hb | rfl | ha
    · exact absurd hj (hbefore j hb).asymm
    · exact absurd hj (lt_irrefl _)
    · exact ha

section Queue
variable {i : Fin 9} {v : Nat} {q : List ImageWrite}

/-- R69: a write without one in the queue goes to the end. -/
theorem enqueue_of_absent (h : (q.any fun e => e.entry == i) = false) : enqueue i v q = q ++ [⟨i, v⟩] := by
  simp [enqueue, h]

/-- R69: what waits after an enqueuing: the write itself, and the writes of other entries. -/
theorem mem_enqueue_write {e : ImageWrite} :
    e ∈ enqueue i v q ↔ e = ⟨i, v⟩ ∨ (e ∈ q ∧ e.entry ≠ i) := by
  unfold enqueue
  split
  next hany =>
    obtain ⟨x, hx, hxi⟩ : ∃ x ∈ q, x.entry = i := by simpa using hany
    rw [List.mem_map]
    constructor
    · rintro ⟨y, hy, rfl⟩
      split
      next hyi => exact .inl (by rw [hyi])
      next hyi => exact .inr ⟨hy, hyi⟩
    · rintro (rfl | ⟨he, hne⟩)
      · exact ⟨x, hx, by rw [if_pos hxi, hxi]⟩
      · exact ⟨e, he, if_neg hne⟩
  next hany =>
    have hne : ∀ x ∈ q, x.entry ≠ i := by simpa using hany
    rw [List.mem_append, List.mem_singleton, or_comm]
    exact or_congr_right ⟨fun he => ⟨he, hne e he⟩, And.left⟩

/-- The writes of other entries keep their places when one is enqueued. -/
theorem filter_enqueue {p : Fin 9 → Bool} (hp : p i = false) :
    (enqueue i v q).filter (fun e => p e.entry) = q.filter (fun e => p e.entry) := by
  have hmap : (q.map fun e => if e.entry = i then { e with value := v } else e).filter (fun e => p e.entry) =
      q.filter (fun e => p e.entry) := by
    induction q with
    | nil => rfl
    | cons e q ih =>
      by_cases he : e.entry = i
      · simp [he, hp, ← ih]
      · simp [he, List.filter_cons, ← ih]
  unfold enqueue
  split
  · exact hmap
  · simp [hp]

/-- The writes of other entries keep their places when one is removed. -/
theorem filter_dequeue {p : Fin 9 → Bool} (hp : p i = false) :
    (dequeue i q).filter (fun e => p e.entry) = q.filter (fun e => p e.entry) := by
  rw [dequeue, List.filter_filter]
  refine List.filter_congr fun e _ => ?_
  by_cases he : e.entry = i <;> simp [he, hp]

/-- The writes that wait for entry `i`. -/
def waitingFor (i : Fin 9) (q : List ImageWrite) : List ImageWrite := q.filter (fun e => e.entry == i)

theorem waitingFor_dequeue : waitingFor i (dequeue i q) = [] := by
  simp [waitingFor, dequeue]

/-- An enqueued write is the only one of its entry. -/
theorem waitingFor_enqueue (h : (q.map ImageWrite.entry).Nodup) : waitingFor i (enqueue i v q) = [⟨i, v⟩] := by
  have hnodup : (waitingFor i (enqueue i v q)).Nodup := (enqueue_nodup i v h).of_map.filter _
  refine List.perm_singleton.mp ((List.perm_ext_iff_of_nodup hnodup (List.nodup_singleton _)).mpr fun e => ?_)
  simp only [waitingFor, List.mem_filter, mem_enqueue_write, beq_iff_eq, List.mem_singleton]
  constructor
  · rintro ⟨rfl | ⟨-, hne⟩, hi⟩
    · rfl
    · exact absurd hi hne
  · rintro rfl
    exact ⟨.inl rfl, rfl⟩

end Queue

section Schedule
variable {c d : Ceilings} {i j : Fin 9} {im : Image}

/-- The rule moves the writes of its own entry only: the others keep their order. -/
theorem filter_schedule {p : Fin 9 → Bool} (hp : p i = false) :
    (schedule c i im).queue.filter (fun e => p e.entry) = im.queue.filter (fun e => p e.entry) := by
  rcases schedule_cases c i im with ⟨r, hr, ht⟩ | k
  · rw [schedule_tracking hr ht]
    split
    · exact filter_dequeue hp
    · exact filter_enqueue hp
  · rw [k]

theorem schedule_nodup (h : (im.queue.map ImageWrite.entry).Nodup) :
    ((schedule c i im).queue.map ImageWrite.entry).Nodup := by
  rcases schedule_cases c i im with ⟨r, hr, ht⟩ | k
  · rw [schedule_tracking hr ht]
    split
    · exact dequeue_nodup i h
    · exact enqueue_nodup i _ h
  · rwa [k]

/-- What the rule makes of the queue for a tracking record (R69). -/
theorem schedule_queue {r : LevelRec} (hr : im.recs[i] = some r) (ht : r.capture = .tracking) :
    (schedule c i im).queue =
      if targetOf c i r = r.applied then dequeue i im.queue else enqueue i (targetOf c i r) im.queue := by
  rw [schedule_tracking hr ht]
  split <;> rfl

/-- What the rule leaves waiting for a tracking record: a write of its target, if that is not applied. -/
theorem schedule_waiting (h : (im.queue.map ImageWrite.entry).Nodup) {r : LevelRec} (hr : im.recs[i] = some r)
    (ht : r.capture = .tracking) : waitingFor i (schedule c i im).queue =
      if targetOf c i r = r.applied then [] else [⟨i, targetOf c i r⟩] := by
  rw [schedule_queue hr ht]
  split
  · exact waitingFor_dequeue
  · exact waitingFor_enqueue h

/-- What the drive image does about entry `i` when the ceilings `c` have become `d` (R59, R70). -/
def followEntry (c d : Ceilings) (im : Image) (i : Fin 9) : Image :=
  if governing c i = governing d i then im else schedule d i im

theorem imageReact_image (c : Ceilings) (s : State) :
    (imageReact c s).image = (List.finRange 9).foldl (followEntry c s.ceil) s.image := rfl

theorem followEntry_nodup (h : (im.queue.map ImageWrite.entry).Nodup) :
    ((followEntry c d im i).queue.map ImageWrite.entry).Nodup := by
  unfold followEntry
  split
  · exact h
  · exact schedule_nodup h

theorem foldl_followEntry_nodup (l : List (Fin 9)) (h : (im.queue.map ImageWrite.entry).Nodup) :
    ((l.foldl (followEntry c d) im).queue.map ImageWrite.entry).Nodup :=
  List.foldlRecOn (motive := fun im : Image => (im.queue.map ImageWrite.entry).Nodup) _ _ h
    fun _ h _ _ => followEntry_nodup h

theorem foldl_followEntry_recs (l : List (Fin 9)) : (l.foldl (followEntry c d) im).recs = im.recs := by
  refine List.foldlRecOn (motive := fun x : Image => x.recs = im.recs) _ _ rfl fun x hx i _ => ?_
  unfold followEntry
  split
  · exact hx
  · rw [schedule_recs, hx]

/-- The following of other entries leaves what waits for this one. -/
theorem foldl_followEntry_waiting {l : List (Fin 9)} (hi : i ∉ l) :
    waitingFor i (l.foldl (followEntry c d) im).queue = waitingFor i im.queue := by
  refine List.foldlRecOn (motive := fun x : Image => waitingFor i x.queue = waitingFor i im.queue) _ _ rfl
    fun x hx j hj => ?_
  have hne : j ≠ i := fun h => hi (h ▸ hj)
  unfold followEntry
  split
  · exact hx
  · exact (filter_schedule (p := (· == i)) (by simpa using hne)).trans hx

/-- The drive image's reaction, as one entry sees it: only its own following matters to what waits for it. -/
theorem imageReact_waiting (c : Ceilings) {s : State} (i : Fin 9)
    (h : (s.image.queue.map ImageWrite.entry).Nodup) :
    ∃ im : Image, im.recs = s.image.recs ∧ (im.queue.map ImageWrite.entry).Nodup ∧
      waitingFor i im.queue = waitingFor i s.image.queue ∧
      waitingFor i (imageReact c s).image.queue = waitingFor i (followEntry c s.ceil im i).queue := by
  obtain ⟨before, after, hsplit, hbefore, hafter⟩ := finRange_split i
  have hb : i ∉ before := by rw [hbefore]; exact lt_irrefl i
  have ha : i ∉ after := by rw [hafter]; exact lt_irrefl i
  refine ⟨before.foldl (followEntry c s.ceil) s.image, foldl_followEntry_recs _, foldl_followEntry_nodup _ h,
    foldl_followEntry_waiting hb, ?_⟩
  rw [imageReact_image, hsplit, List.foldl_append, List.foldl_cons, foldl_followEntry_waiting ha]

end Schedule

/-- The rule for one entry, as R69 words it. -/
theorem schedule_rule (c : Ceilings) (i : Fin 9) (im : Image) {r : LevelRec} (hr : im.recs[i] = some r)
    (ht : r.capture = .tracking) :
    let q := (schedule c i im).queue
    let waits := im.queue.any (fun e => e.entry == i)
    (targetOf c i r ≠ r.applied → waits = false → q = im.queue ++ [⟨i, targetOf c i r⟩]) ∧
    (targetOf c i r ≠ r.applied → waits = true → q.map ImageWrite.entry = im.queue.map ImageWrite.entry ∧
      ∀ e ∈ q, if e.entry = i then e.value = targetOf c i r else e ∈ im.queue) ∧
    (targetOf c i r = r.applied → q = dequeue i im.queue) := by
  intro q waits
  have hq : q = if targetOf c i r = r.applied then dequeue i im.queue
      else enqueue i (targetOf c i r) im.queue := schedule_queue hr ht
  refine ⟨fun hne hwaits => ?_, fun hne hwaits => ?_, fun heq => ?_⟩
  · rw [hq, if_neg hne, enqueue_of_absent hwaits]
  · rw [hq, if_neg hne]
    refine ⟨?_, fun e he => ?_⟩
    · rw [enqueue_entries, if_pos (by simpa [waits] using hwaits)]
    · rcases mem_enqueue_write.mp he with rfl | ⟨hmem, hne⟩
      · rw [if_pos rfl]
      · rwa [if_neg hne]
  · rw [hq, if_pos heq]

/-- Settles O23: the rule entry by entry, and the scan of the entries that follows the ceilings. -/
theorem schedulingRule : Obligations.SchedulingRule := by
  constructor
  · intro c i im t waits
    refine ⟨schedule_recs c i im, fun r hr ht => schedule_rule c i im hr ht, fun h => ?_,
      filter_schedule (p := (· != i)) (by simp), fun h => ?_⟩
    · exact congrArg Image.queue (schedule_idle fun r hr => by simp [h r hr])
    · have hnodup : (t.queue.map ImageWrite.entry).Nodup := schedule_nodup h
      exact ⟨hnodup, by simpa using hnodup.length_le_card⟩
  · intro c s i h t waiting
    obtain ⟨im, hrecs, hnodup, hbefore, hafter⟩ := imageReact_waiting c i h
    refine ⟨imageReact_recs c s, foldl_followEntry_nodup _ h, fun hsame => ?_,
      fun hne => ⟨fun r hr ht => ?_, fun h => ?_⟩⟩
    · rw [followEntry, if_pos hsame, hbefore] at hafter
      exact hafter
    · rw [← hrecs] at hr
      rw [followEntry, if_neg hne, schedule_waiting hnodup hr ht] at hafter
      exact hafter
    · rw [← hrecs] at h
      rw [followEntry, if_neg hne, schedule_idle fun r hr => by simp [h r hr], hbefore] at hafter
      exact hafter

/-! ## The completions that run the rule (R63, R72, R75) -/

theorem updRec_recs_of {im : Image} {i : Fin 9} {r : LevelRec} (hr : im.recs[i] = some r)
    (f : LevelRec → LevelRec) : (im.updRec i f).recs = im.recs.set i (some (f r)) := by
  have hset : (im.updRec i f).recs = im.recs.set i ((im.recs[i]).map f) := rfl
  rw [hset, hr, Option.map_some]

/-- A record changed and then scheduled: it takes its change, and the rule judges the new record. -/
theorem schedule_updRec (c : Ceilings) {im : Image} {i : Fin 9} {r : LevelRec} {f : LevelRec → LevelRec}
    (hr : im.recs[i] = some r) (ht : (f r).capture = .tracking) :
    let x := schedule c i (im.updRec i f)
    let target := targetOf c i (f r)
    x.recs = im.recs.set i (some (f r)) ∧
    (target = (f r).applied → x.queue = dequeue i im.queue) ∧
    (target ≠ (f r).applied → x.queue = enqueue i target im.queue) := by
  intro x target
  have hrec : (im.updRec i f).recs[i] = some (f r) := by rw [updRec_recs, if_pos rfl, hr, Option.map_some]
  have hqueue : x.queue = if target = (f r).applied then dequeue i im.queue else enqueue i target im.queue :=
    schedule_queue hrec ht
  exact ⟨by rw [schedule_recs, updRec_recs_of hr], fun heq => by rw [hqueue, if_pos heq],
    fun hne => by rw [hqueue, if_neg hne]⟩

/-- An event that changes no ceiling and submits no record. -/
theorem conclude_upd {s : State} {f : State → State} (h : (f s).ceil = s.ceil) :
    conclude s ((Ev.of s).upd f) = settle (f s) :=
  conclude_quiet rfl fun i => by rw [Ev.upd_st, Ev.of_st, h]

/-- The state a capture read's completion leaves to the arbiter. -/
def captured (i : Fin 9) (m : Word) (s : State) : State :=
  reschedule i { s.portFree with image := s.image.updRec i (seedRecord m.toNat) }

theorem exec_captureReadCompletion {s : State} {i : Fin 9} {a : Word} {k : AccessKind}
    (hr : s.resetHeld = false) (hp : s.port.inFlight = some ⟨.capture i, a, k⟩) (m : Word) :
    exec (.captureReadCompletion m) s = .next (settle (captured i m s)) := by
  have hexec : exec (.captureReadCompletion m) s =
      whenever (!s.resetHeld) s (conclude s ((Ev.of s).upd (captured i m))) := by
    simp only [exec, execCaptureReadCompletion, hp]
    rfl
  rw [hexec, hr, conclude_upd (f := captured i m) rfl]
  rfl

/-- Settles O24: the record seeded from the word's value, and the scheduling rule run for it. -/
theorem captureSeedsTheRecord : Obligations.CaptureSeedsTheRecord := by
  intro s m i a k r hr hp hrec r'
  obtain ⟨hrecs, heq, hne⟩ := schedule_updRec s.ceil (f := seedRecord m.toNat) hrec rfl
  have htarget : targetOf s.ceil i r' ≤ 4096 := (min_le_left _ _).trans (min_le_right _ _)
  refine ⟨captured i m s, exec_captureReadCompletion hr hp m, rfl, hrecs, heq, fun h => ?_, fun h => ?_,
    rfl, fun b hb => ?_⟩
  · have hqueue : (captured i m s).image.queue = enqueue i (targetOf s.ceil i r') s.image.queue := hne h
    exact ⟨hqueue, hqueue ▸ mem_enqueue_write.mpr (.inl rfl), htarget⟩
  · exact ⟨min_eq_right h.le, (htarget.trans_lt h).ne⟩
  · cases b <;> simp at hb <;> simp [sameBlock, captured]

/-- The state a level word's write leaves to the arbiter: a host's word is disposed of. -/
def levelWritten (host : Bool) (i : Fin 9) (v : Word) (s : State) : State :=
  applyWrite i v (if host then s.portFree.updLink Link.disposed else s.portFree)

theorem exec_levelWriteCompletion {s : State} {v a : Word} {i : Fin 9} {host : Bool} (hr : s.resetHeld = false)
    (hp : s.port.inFlight = some ⟨if host then .hostLevel i else .image i, a, .write v⟩) :
    exec (if host then .hostLevelWriteCompletion else .imageWriteCompletion) s =
      .next (settle (levelWritten host i v s)) := by
  have hexec : exec (if host then .hostLevelWriteCompletion else .imageWriteCompletion) s =
      whenever (!s.resetHeld) s (conclude s ((Ev.of s).upd (levelWritten host i v))) := by
    cases host
    · simp only [Bool.false_eq_true, if_false] at hp ⊢
      simp only [exec, execImageWriteCompletion, hp]
      rfl
    · simp only [if_true] at hp ⊢
      simp only [exec, execHostLevelWriteCompletion, hp]
      rfl
  rw [hexec, hr, conclude_upd (f := levelWritten host i v) (by cases host <;> rfl)]
  rfl

/-- Settles O25: both completions change the record alike, and the rule judges it by its new applied level. -/
theorem levelWritesComplete : Obligations.LevelWritesComplete := by
  intro s v i a r host hr hrec ht hp r'
  obtain ⟨hrecs, heq, hne⟩ := schedule_updRec s.ceil
    (f := fun r => { r with applied := v.toNat, inFlight := .none }) hrec ht
  have himage : (levelWritten host i v s).image = schedule s.ceil i
      (s.image.updRec i fun r => { r with applied := v.toNat, inFlight := .none }) := by cases host <;> rfl
  refine ⟨levelWritten host i v s, exec_levelWriteCompletion hr hp, by cases host <;> rfl,
    by cases host <;> rfl, ?_, fun h => ?_, fun h => ?_, by cases host <;> rfl, fun b hb => ?_⟩
  · rw [himage, hrecs]
  · rw [himage, heq h]
    exact ⟨rfl, fun e he => (mem_dequeue.mp he).2⟩
  · rw [himage, hne h]
    exact ⟨rfl, mem_enqueue_write.mpr (.inl rfl)⟩
  · cases b <;> simp at hb <;> cases host <;> simp [sameBlock, levelWritten]

/-! ## A host's level word (R74) -/

theorem clampLevel_le (c : Ceilings) (i : Fin 9) (w : Word) :
    clampLevel c i w ≤ w.toNat ∧ clampLevel c i w ≤ 4096 ∧ clampLevel c i w ≤ governing c i := by
  unfold clampLevel
  omega

/-- The outcome of a word forwarded with a lesser value: TRIMMED if it is less (R74, R130). -/
theorem outcomeOf_word {f : Nat} {w : Word} (h : f ≤ w.toNat) :
    outcomeOf w (word f) = if f < w.toNat then .trimmed else .written := by
  have hw := w.isLt
  have hf : (word f).toNat = f := word_toNat (by omega)
  rw [outcomeOf_eq]
  split
  next heq => rw [if_neg (by rw [← heq, hf]; exact lt_irrefl f)]
  next hne => rw [if_pos (lt_of_le_of_ne h fun heq => hne (by rw [heq]; exact BitVec.eq_of_toNat_eq (heq ▸ hf)))]

/-- R50: in a muted state the system's level word has no ceiling but 0. -/
theorem governing_muted {s : State} {i : Fin 9} (hi : i.val = 0) (hm : s.ctl.state.running = false)
    (h : rfSafe s) : governing s.ceil i = 0 := by
  obtain ⟨-, -, hsys, -⟩ := h
  rw [governing, if_pos hi, hsys hm]

/-- R49, R56: the level word of a module that is not ON has no ceiling but 0. -/
theorem governing_off {s : State} {i : Fin 9} {n : Fin 8} (hi : i.val = n.val + 1)
    (hn : (s.mods.mods[n]).state ≠ .on) (h : ceilingsRight s) : governing s.ceil i = 0 := by
  obtain ⟨-, hraw, heff, -⟩ := h
  have hzero : s.ceil.eMod[n] = 0 := by
    have := heff n
    rwa [hraw, rawModule_off hn, Nat.le_zero] at this
  rw [governing, if_neg (by omega), show i.val - 1 = n.val by omega]
  simpa using hzero

/-- The state a host's level word of value `w` leaves, forwarded to `a`. -/
def levelTaken (i : Fin 9) (a w : Word) (s : State) : State :=
  ((takeLevel i w s).updLink fun l => l.outcome (outcomeOf w (word (clampLevel s.ceil i w)))).begin
    (.hostLevel i) a (.write (word (clampLevel s.ceil i w)))

theorem exec_hostLevelWord {s : State} {a w : Word} {i : Fin 9} (hw : s.handoffWord = some (a, w))
    (ht : s.target a = .level i) : exec .hostLevelWord s = .next (levelTaken i a w s) := by
  have htreat : treat s (s.target a) w = ((Ev.of s).upd (takeLevel i w),
      .forward (word (clampLevel s.ceil i w)) (.hostLevel i)) := by rw [ht]; rfl
  refine (handoff_forward hw (by simp [isTarget, ht]) htreat).trans ?_
  rw [Ev.upd_out, Ev.of_out, submitAll_nil]
  exact congrArg Host.Outcome.next (imageReact_of_ceil (s := levelTaken i a w s) rfl)

/-- Settles O26: the word taken with the lesser of its level and the ceiling, which is 0 where RF is off. -/
theorem hostLevelWordIsClamped : Obligations.HostLevelWordIsClamped := by
  intro s a w i r hw ht hr f
  obtain ⟨hword, hfull, hceil⟩ : f ≤ w.toNat ∧ f ≤ 4096 ∧ f ≤ governing s.ceil i := clampLevel_le s.ceil i w
  refine ⟨levelTaken i a w s, exec_hostLevelWord hw ht, updRec_recs_of hr _, rfl,
    fun e he => (mem_dequeue.mp he).2, rfl, ?_, hword.lt_or_eq, hfull.trans_lt, word_toNat (by omega),
    fun hi hm hsafe => ?_, fun n hi hn hright => ?_, rfl, fun b hb => ?_⟩
  · rw [← outcomeOf_word hword]; rfl
  · exact Nat.le_zero.mp (governing_muted hi hm hsafe ▸ hceil)
  · exact Nat.le_zero.mp (governing_off hi hn hright ▸ hceil)
  · cases b <;> simp at hb <;> simp [sameBlock, levelTaken]

end Sys2Proof.Machine
end

section
namespace Sys2Proof.Machine

open Sys2Proof Sys2Proof.Config

/-! ## What a level enable mask is validated to (R65) -/

theorem bit_mark (i k : Fin 9) : bit (mark true i.val) k.val = decide (k = i) := by
  revert i k; decide

theorem bit_or (v w : Word) (k : Nat) : bit (v ||| w) k = (bit v k || bit w k) := BitVec.getLsbD_or

theorem bit_and (v w : Word) (k : Nat) : bit (v &&& w) k = (bit v k && bit w k) := BitVec.getLsbD_and

/-- The nine entries' bits are all in the mask's. -/
theorem bit_entries (w : Word) (k : Fin 9) : bit (w &&& 0x01FF) k.val = bit w k.val := by
  have hall : ∀ k : Fin 9, bit 0x01FF k.val = true := by decide
  rw [bit_and, hall, Bool.and_true]

/-- R65 step 4: entry `i` is to be set, and its address is free of the control table and of the entries in
`acc`, which are enabled so far. -/
def admitted (s : State) (want old acc : Word) (i : Fin 9) : Prop :=
  bit want i.val = true ∧ bit old i.val = false ∧ s.inTable (s.levelAddr i) = false ∧
    ∀ j : Fin 9, bit acc j.val = true → s.levelAddr j ≠ s.levelAddr i

section Examination
variable {s : State} {want old acc : Word} {i k : Fin 9}

/-- The two tests an entry meets in its examination. -/
theorem admitted_iff : admitted s want old acc i ↔ (bit want i.val && !bit old i.val) = true ∧
    ¬(s.inTable (s.levelAddr i) ||
      (List.finRange 9).any (fun j => bit acc j.val && s.levelAddr j == s.levelAddr i)) = true := by
  simp [admitted, and_assoc]

theorem examineEntry_admitted (h : admitted s want old acc i) :
    examineEntry s want old acc i = acc ||| mark true i.val := by
  obtain ⟨hasked, hfree⟩ := admitted_iff.mp h
  rw [examineEntry, if_pos hasked, if_neg hfree]

theorem examineEntry_refused (h : ¬admitted s want old acc i) : examineEntry s want old acc i = acc := by
  unfold examineEntry
  split
  next hasked =>
    split
    next => rfl
    next hfree => exact absurd (admitted_iff.mpr ⟨hasked, hfree⟩) h
  next => rfl

/-- The examination of an entry sets that entry's bit at most. -/
theorem bit_examineEntry : bit (examineEntry s want old acc i) k.val = true ↔
    bit acc k.val = true ∨ (k = i ∧ admitted s want old acc i) := by
  by_cases h : admitted s want old acc i
  · rw [examineEntry_admitted h, bit_or, bit_mark]; simp [h]
  · rw [examineEntry_refused h]; simp [h]

/-- Entries not examined keep their bits. -/
theorem bit_foldl_examineEntry {l : List (Fin 9)} (hk : k ∉ l) :
    bit (l.foldl (examineEntry s want old) acc) k.val = true ↔ bit acc k.val = true := by
  refine List.foldlRecOn (motive := fun x : Word => bit x k.val = true ↔ bit acc k.val = true) _ _ Iff.rfl
    fun x hx i hi => ?_
  have hne : k ≠ i := fun h => hk (h ▸ hi)
  rw [bit_examineEntry, hx]
  simp [hne]

/-- A bit once set stays. -/
theorem bit_foldl_examineEntry_mono {l : List (Fin 9)} (h : bit acc k.val = true) :
    bit (l.foldl (examineEntry s want old) acc) k.val = true :=
  List.foldlRecOn (motive := fun x : Word => bit x k.val = true) _ _ h
    fun _ hx _ _ => bit_examineEntry.mpr (.inl hx)

/-- No bit above the nine is ever set. -/
theorem examineEntry_entries (h : acc &&& 0x01FF = acc) :
    examineEntry s want old acc i &&& 0x01FF = examineEntry s want old acc i := by
  have hmark : ∀ i : Fin 9, mark true i.val &&& 0x01FF = mark true i.val := by decide
  by_cases hi : admitted s want old acc i
  · rw [examineEntry_admitted hi, BitVec.and_or_distrib_right, h, hmark]
  · rwa [examineEntry_refused hi]

end Examination

theorem validLevelMask_entries (s : State) (old w : Word) :
    validLevelMask s old w &&& 0x01FF = validLevelMask s old w := by
  have hkept : (w &&& 0x01FF &&& old) &&& 0x01FF = w &&& 0x01FF &&& old := by
    rw [BitVec.and_assoc, BitVec.and_comm old, ← BitVec.and_assoc, BitVec.and_assoc w, BitVec.and_self]
  exact List.foldlRecOn (motive := fun x : Word => x &&& 0x01FF = x) _ _ hkept
    fun _ hx _ _ => examineEntry_entries hx

/-- An entry kept by a write of `w`. -/
def keptBy (old w : Word) (i : Fin 9) : Prop := bit old i.val = true ∧ bit w i.val = true

theorem bit_kept (old w : Word) (i : Fin 9) : bit (w &&& 0x01FF &&& old) i.val = true ↔ keptBy old w i := by
  rw [bit_and, bit_entries, Bool.and_eq_true, keptBy, and_comm]

/-- An entry is in the validated mask if it is kept or admitted beside the entries `acc` that are kept or,
being lower, already taken. -/
theorem bit_validLevelMask (s : State) (old w : Word) (i : Fin 9) : ∃ acc : Word,
    (∀ j : Fin 9, bit acc j.val = true ↔
      keptBy old w j ∨ (j < i ∧ bit (validLevelMask s old w) j.val = true)) ∧
    (bit (validLevelMask s old w) i.val = true ↔ keptBy old w i ∨ admitted s (w &&& 0x01FF) old acc i) := by
  obtain ⟨before, after, hsplit, hbefore, hafter⟩ := finRange_split i
  generalize hacc : before.foldl (examineEntry s (w &&& 0x01FF) old) (w &&& 0x01FF &&& old) = acc
  have hvalid : validLevelMask s old w =
      after.foldl (examineEntry s (w &&& 0x01FF) old) (examineEntry s (w &&& 0x01FF) old acc i) := by
    rw [← hacc, validLevelMask, hsplit, List.foldl_append, List.foldl_cons]
  have hlower {j : Fin 9} (hj : j < i) : bit (validLevelMask s old w) j.val = true ↔ bit acc j.val = true := by
    rw [hvalid, bit_foldl_examineEntry (by rw [hafter]; exact hj.asymm), bit_examineEntry]
    simp [hj.ne]
  have hhigher {j : Fin 9} (hj : ¬j < i) : bit acc j.val = true ↔ keptBy old w j := by
    rw [← hacc, bit_foldl_examineEntry (by rwa [hbefore]), bit_kept]
  refine ⟨acc, fun j => ?_, ?_⟩
  · by_cases hj : j < i
    · rw [hlower hj]
      refine ⟨fun h => .inr ⟨hj, h⟩, ?_⟩
      rintro (hk | ⟨-, h⟩)
      · rw [← hacc]; exact bit_foldl_examineEntry_mono ((bit_kept old w j).mpr hk)
      · exact h
    · rw [hhigher hj]; simp [hj]
  · rw [hvalid, bit_foldl_examineEntry (by rw [hafter]; exact lt_irrefl i), bit_examineEntry,
      hhigher (lt_irrefl i)]
    simp

/-- A write of the mask in force examines no entry. -/
theorem validLevelMask_self (s : State) {old : Word} (h : old &&& 0x01FF = old) :
    validLevelMask s old old = old := by
  rw [validLevelMask, h, BitVec.and_self]
  exact foldl_keep _ _ _ fun acc i => examineEntry_refused fun ⟨hwant, hold, _⟩ => by simp [hwant] at hold

/-- The validation, bit by bit, as R65 words it. -/
theorem validLevelMask_rule (s : State) (old w : Word) (i : Fin 9) :
    let v := validLevelMask s old w
    (bit w i.val = false → bit v i.val = false) ∧
    (bit w i.val = true → bit old i.val = true → bit v i.val = true) ∧
    (bit w i.val = true → bit old i.val = false →
      (bit v i.val = true ↔
        s.inTable (s.levelAddr i) = false ∧
        ∀ j : Fin 9, bit old j.val = true ∧ bit w j.val = true ∨ j < i ∧ bit v j.val = true →
          s.levelAddr j ≠ s.levelAddr i)) := by
  intro v
  obtain ⟨acc, hacc, hv⟩ := bit_validLevelMask s old w i
  simp only [admitted, bit_entries, hacc] at hv
  refine ⟨fun hw => ?_, fun hw hold => hv.mpr (.inl ⟨hold, hw⟩), fun hw hold => ?_⟩
  · rw [← Bool.not_eq_true, hv]
    simp [keptBy, hw]
  · rw [hv]
    simp [keptBy, hw, hold, v]

/-! ## The records a new mask removes and creates (R65 to R67) -/

/-- A scan of the entries that does `f` for those of `p`. -/
def scan (p : Fin 9 → Bool) (f : State → Fin 9 → State) (l : List (Fin 9)) (s : State) : State :=
  l.foldl (fun s i => if p i then f s i else s) s

/-- Entry `i` is set in the mask `v` and clear in `w`. -/
def onlyIn (v w : Word) (i : Fin 9) : Bool := bit v i.val && !bit w i.val

/-- R67: the entries that a new mask disables have lost their records. -/
def disableEntries (old new : Word) (s : State) : State := scan (onlyIn old new) removeRecord (List.finRange 9) s

/-- R65 to R67: the entries disabled lose their records, and then those enabled get theirs. -/
theorem applyLevelMask_eq (old new : Word) (s : State) : applyLevelMask old new s =
    scan (onlyIn new old) createRecord (List.finRange 9) (disableEntries old new s) := rfl

theorem levelAddr_congr {s t : State} (h : t.shadow = s.shadow) (i : Fin 9) : t.levelAddr i = s.levelAddr i :=
  word_congr h _

section Scan
variable {s : State} {p : Fin 9 → Bool} {f : State → Fin 9 → State} {l : List (Fin 9)}

theorem scan_cons_of {i : Fin 9} (hp : p i = true) : scan p f (i :: l) s = scan p f l (f s i) := by
  rw [scan, List.foldl_cons, if_pos hp, scan]

theorem scan_cons_of_not {i : Fin 9} (hp : ¬p i = true) : scan p f (i :: l) s = scan p f l s := by
  rw [scan, List.foldl_cons, if_neg hp, scan]

/-- What a scan's steps keep, the scan keeps. -/
theorem scan_keeps {α : Type} (g : State → α) (hf : ∀ x i, g (f x i) = g x) : g (scan p f l s) = g s := by
  refine List.foldlRecOn (motive := fun x : State => g x = g s) _ _ rfl fun x hx i _ => ?_
  split
  · rw [hf, hx]
  · exact hx

/-- A scan whose steps each put `o i` in the place of entry `i`'s record, while the shadow stands. -/
theorem scan_recs {o : Fin 9 → Option LevelRec} {x : State} (hx : x.shadow = s.shadow)
    (hshadow : ∀ y i, (f y i).shadow = y.shadow)
    (hf : ∀ y i, y.shadow = s.shadow → (f y i).image.recs = y.image.recs.set i (o i)) (j : Fin 9) :
    (scan p f l x).image.recs[j] = if j ∈ l ∧ p j = true then o j else x.image.recs[j] := by
  induction l generalizing x with
  | nil => simp [scan]
  | cons i l ih =>
    by_cases hp : p i = true
    · rw [scan_cons_of hp, ih ((hshadow x i).trans hx), hf x i hx]
      by_cases hji : j = i
      · subst hji; simp [hp]
      · have hne : i.val ≠ j.val := fun h => hji (Fin.ext h.symm)
        simp [hji, hne]
    · rw [scan_cons_of_not hp, ih hx]
      by_cases hji : j = i
      · subst hji; simp [hp]
      · simp [hji]

/-- R62, R66: the capture reads of new records are issued in the scan's order. -/
theorem scan_createRecord_class1 : (scan p createRecord l s).port.class1 =
    s.port.class1 ++ (l.filter p).map fun i => .capture i (s.levelAddr i) := by
  induction l generalizing s with
  | nil => simp [scan]
  | cons i l ih =>
    by_cases hp : p i = true
    · have haddr (k : Fin 9) : (createRecord s i).levelAddr k = s.levelAddr k := levelAddr_congr (by simp) k
      have hissue : (createRecord s i).port.class1 = s.port.class1 ++ [.capture i (s.levelAddr i)] := rfl
      rw [scan_cons_of hp, ih, hissue]
      simp [hp, haddr]
    · rw [scan_cons_of_not hp, ih]
      simp [hp]

/-- R67: removals leave an empty queue empty. -/
theorem scan_removeRecord_queue (h : s.image.queue = []) : (scan p removeRecord l s).image.queue = [] := by
  refine List.foldlRecOn (motive := fun x : State => x.image.queue = []) _ _ h fun x hx i _ => ?_
  split
  · simp [removeRecord, dequeue, hx]
  · exact hx

end Scan

@[simp] theorem disableEntries_shadow (old new : Word) (s : State) :
    (disableEntries old new s).shadow = s.shadow :=
  scan_keeps (f := removeRecord) State.shadow fun _ _ => rfl

@[simp] theorem disableEntries_port (old new : Word) (s : State) :
    (disableEntries old new s).port = s.port :=
  scan_keeps (f := removeRecord) State.port fun _ _ => rfl

theorem disableEntries_recs (old new : Word) (s : State) (i : Fin 9) : (disableEntries old new s).image.recs[i] =
    if onlyIn old new i = true then none else s.image.recs[i] := by
  rw [disableEntries, scan_recs (s := s) (f := removeRecord) (o := fun _ => none) rfl (fun _ _ => rfl)
    fun _ _ _ => rfl]
  simp

/-- The level records after a new mask. -/
theorem applyLevelMask_recs (old new : Word) (s : State) (i : Fin 9) : (applyLevelMask old new s).image.recs[i] =
    if onlyIn new old i = true then some (newRecord (s.levelAddr i))
    else if onlyIn old new i = true then none else s.image.recs[i] := by
  rw [applyLevelMask_eq, scan_recs (s := s) (f := createRecord) (o := fun i => some (newRecord (s.levelAddr i)))
    (disableEntries_shadow old new s) (fun _ _ => rfl) (fun y i hy => by rw [← levelAddr_congr hy]; rfl),
    disableEntries_recs]
  simp

/-- Class 1 and the image write queue after a new mask that meets an empty queue. -/
theorem applyLevelMask_work (old new : Word) {s : State} (h : s.image.queue = []) :
    (applyLevelMask old new s).image.queue = [] ∧
    (applyLevelMask old new s).port.class1 = s.port.class1 ++
      ((List.finRange 9).filter (onlyIn new old)).map fun i => .capture i (s.levelAddr i) := by
  rw [applyLevelMask_eq]
  constructor
  · rw [scan_keeps (f := createRecord) (fun x => x.image.queue) fun _ _ => rfl]
    exact scan_removeRecord_queue h
  · rw [scan_createRecord_class1, disableEntries_port]
    simp only [levelAddr_congr (disableEntries_shadow old new s)]

/-! ## The mask's handoff (R65, R149) -/

/-- The state the handoff of a level enable mask leaves. -/
def maskTaken (a w v : Word) (s : State) : State :=
  posted a w v (applyLevelMask (s.word offLevelMask) v (s.store offLevelMask v))

theorem exec_levelEnableMaskWrite {s : State} {a w : Word} (hw : s.handoffWord = some (a, w))
    (ht : s.target a = .levelMask) : exec .levelEnableMaskWrite s =
      .next (maskTaken a w (validLevelMask s (s.word offLevelMask) w) s) := by
  generalize hv : validLevelMask s (s.word offLevelMask) w = v
  have hjudge : s.judge .levelMask w = .taken v := by rw [← hv]; rfl
  have htreat : treat s (s.target a) w =
      ((((Ev.of s).upd fun s => s.store offLevelMask v).upd
        (applyLevelMask (s.word offLevelMask) v)).upd startSweep, .forward v .hostWrite) := by
    rw [ht]
    simp only [treat, hjudge]
    rfl
  have hceil : (maskTaken a w v s).ceil = s.ceil :=
    congrArg (·.ceil) (applyLevelMask_only (s.word offLevelMask) v (s.store offLevelMask v) : _ = _)
  refine (handoff_forward hw (by simp [isTarget, ht]) htreat).trans ?_
  exact congrArg Host.Outcome.next (imageReact_of_ceil (s := maskTaken a w v s) hceil)

/-- A stored word whose handoff bears on the drive image and the port, as the other blocks see it. -/
theorem posted_imageOnly {s x : State} {a w v : Word} {off : Nat} (hx : imageOnly (s.store off v) x) :
    (posted a w v x).shadow = (s.store off v).shadow ∧ sweepStarted s (posted a w v x) ∧
      (posted a w v x).link = s.link.outcome (outcomeOf w v) ∧
      changesOnly [.shadow, .checker, .image, .port, .link] s (posted a w v x) := by
  unfold imageOnly at hx
  refine ⟨by rw [hx]; rfl, posted_sweepStarted (by rw [hx]; rfl), by rw [hx]; rfl, by rw [hx]; rfl,
    fun b hb => ?_⟩
  rw [hx]
  cases b <;> simp at hb <;> simp [sameBlock, posted]

/-- Settles O27: the examination entry by entry, and the records and capture reads the validated mask makes. -/
theorem levelEnableMaskWrites : Obligations.LevelEnableMaskWrites := by
  refine ⟨fun s old w => ⟨validLevelMask_entries s old w, validLevelMask_rule s old w, validLevelMask_self s⟩,
    ?_⟩
  intro s a w hw ht old v enabled
  obtain ⟨-, -, hclass1, hqueue, -⟩ := handoffWord_eq_some.mp hw
  have hstored : wordStored offLevelMask v s (s.store offLevelMask v) :=
    wordStored_store v (by decide) (by decide)
  have haddr (i : Fin 9) : (s.store offLevelMask v).levelAddr i = s.levelAddr i :=
    hstored.2 _ (by simp [offLevelAddr]; omega) (by simp [offLevelAddr, offLevelMask]; omega)
  obtain ⟨hshadow, hsweep, hlink, hblocks⟩ :=
    posted_imageOnly (a := a) (w := w) (applyLevelMask_only old v (s.store offLevelMask v))
  obtain ⟨hempty, hissued⟩ := applyLevelMask_work old v (s := s.store offLevelMask v) hqueue
  refine ⟨maskTaken a w v s, exec_levelEnableMaskWrite hw ht, wordStored_congr hshadow hstored, hsweep,
    fun i => ?_, hempty, ?_, hlink, hblocks⟩
  · have hrecs := applyLevelMask_recs old v (s.store offLevelMask v) i
    rw [haddr, State.store_image] at hrecs
    refine Eq.trans hrecs ?_
    simp only [onlyIn, Bool.and_eq_true, Bool.not_eq_true', newRecord, enabled]
  · simp only [haddr, State.store_port, hclass1, List.nil_append] at hissued
    exact congrArg (Port.mk _) hissued

end Sys2Proof.Machine
end

section
/-! # Arc sources and proof tests (chapter 5, sections 6.5 to 6.9)

How an event of the arc monitor or of the controller ends, what an input change and a debounced transition do,
the proof test, the timers with one effect, and the handoffs of source words and commands. -/

namespace Sys2Proof.Machine

open Sys2Proof Sys2Proof.Config

/-! ## The end of an event of the arc monitor or the controller -/

/-- A frame need not name a block that has not changed. -/
theorem changesOnly.narrow {bs cs : List Block} {s t : State} (h : changesOnly bs s t)
    (hkept : ∀ b ∈ bs, b ∉ cs → sameBlock s t b) : changesOnly cs s t := by
  obtain ⟨hpending, hblocks⟩ := h
  refine ⟨hpending, fun b hb => ?_⟩
  by_cases hm : b ∈ bs
  · exact hkept b hm hb
  · exact hblocks b hm

/-- What an event that met `s` leaves before the arbiter's grants. -/
def concluded (s : State) (e : Ev) : State := submitAll e.out (imageReact s.ceil e.st)

theorem conclude_concluded (s : State) (e : Ev) : conclude s e = settle (concluded s e) := rfl

@[simp] theorem concluded_ctl (s : State) (e : Ev) : (concluded s e).ctl = e.st.ctl := rfl
@[simp] theorem concluded_ceil (s : State) (e : Ev) : (concluded s e).ceil = e.st.ceil := rfl
@[simp] theorem concluded_arc (s : State) (e : Ev) : (concluded s e).arc = e.st.arc := rfl

/-- An event that submits no record and leaves the ceilings alone only lets the arbiter grant. -/
theorem conclude_of_ceil {s : State} {e : Ev} (hout : e.out = []) (hc : e.st.ceil = s.ceil) :
    conclude s e = settle e.st :=
  conclude_quiet hout fun _ => by rw [hc]

section Concluded
variable {s : State} {e : Ev} (h : steered s e.st)
include h

theorem steered.concluded_imageFollows : imageFollows s (concluded s e) := imageFollows_concluded h.image

theorem steered.concluded_submitted : submitted e.out s (concluded s e) :=
  submitted_concluded (congrArg State.pub h :) rfl

theorem steered.concluded_changesOnly : changesOnly [.ctl, .ceil, .image, .arc, .pub] s (concluded s e) := by
  have hst : e.st = { s with ceil := e.st.ceil, arc := e.st.arc, ctl := e.st.ctl } := h
  refine ⟨(congrArg State.pending hst :), fun b hb => ?_⟩
  simp only [concluded]
  rw [hst]
  cases b <;> simp at hb <;> simp [sameBlock]

/-- An event that leaves the controller alone. -/
theorem steered.concluded_changesOnly_arc (hctl : e.st.ctl = s.ctl) :
    changesOnly [.arc, .ceil, .image, .pub] s (concluded s e) :=
  h.concluded_changesOnly.narrow (by simpa [sameBlock] using hctl)

/-- An event that leaves the arc monitor alone. -/
theorem steered.concluded_changesOnly_ctl (harc : e.st.arc = s.arc) :
    changesOnly [.ctl, .ceil, .image, .pub] s (concluded s e) :=
  h.concluded_changesOnly.narrow (by simpa [sameBlock] using harc)

end Concluded

/-! ## Input changes (R81, R82) -/

/-- A changed source, as it is read. -/
theorem setSource_self (i : Fin 5) (f : Source → Source) (s : State) :
    (setSource i f s).arc.sources[i] = f (s.arc.sources[i]) := Vector.getElem_set_self i.isLt

/-- The level a pin takes stands in the state `u` it leaves, and no more has changed. -/
def pinned (s u : State) : Prop :=
  u = { s with arc := { s.arc with lines := u.arc.lines, surgeInput := u.arc.surgeInput } }

/-- PENDING_CHANGE and SURGE_COMPARATOR_CHANGE are one event: the pin moves, and out of reset the debouncer of
its source hears of the level (log entries 5, 6). -/
theorem exec_inputChange {c : Instr} {i : Fin 5} {s u : State}
    (h : (∃ high, c = .pendingChange i high ∧ i.val < 4 ∧
        u = { s with arc := { s.arc with lines := s.arc.lines.setIfInBounds i.val high } } ∧
        u.inputLevel i = high) ∨
      (∃ r, c = .surgeComparatorChange r ∧ i = 4 ∧
        u = { s with arc := { s.arc with surgeInput := min 4096 r } })) :
    pinned s u ∧ (s.resetHeld = true → exec c s = .next u) ∧
      (s.resetHeld = false → exec c s = .next (conclude s (inputChange i (u.inputLevel i) (Ev.of u)))) := by
  rcases h with ⟨high, rfl, hi, hu, hlevel⟩ | ⟨r, rfl, rfl, hu⟩
  · have hexec : exec (.pendingChange i high) s =
        .next (if s.resetHeld then u else conclude s (inputChange i high (Ev.of u))) := by
      rw [hu]
      exact congrArg (whenever · s _) (decide_eq_true hi)
    exact ⟨by rw [hu]; rfl, fun hr => by rw [hexec, if_pos hr], fun hr => by
      rw [hexec, hr, hlevel, if_neg Bool.false_ne_true]⟩
  · have hexec : exec (.surgeComparatorChange r) s =
        .next (if s.resetHeld then u else conclude s (inputChange 4 (u.inputLevel 4) (Ev.of u))) := by
      rw [hu]
      rfl
    exact ⟨by rw [hu]; rfl, fun hr => by rw [hexec, if_pos hr], fun hr => by
      rw [hexec, hr, if_neg Bool.false_ne_true]⟩

/-- An input change that is no transition at once leaves its source with the pending change of `changeAfter`. -/
theorem conclude_inputChange_waits {i : Fin 5} {level : Bool} {s u : State} (hc : u.ceil = s.ceil)
    (hst : (u.arc.sources[i]).state ≠ .disabled)
    (hw : ¬atOnce level (srcDebounce (u.sourceWord i)) (u.arc.sources[i])) :
    conclude s (inputChange i level (Ev.of u)) = settle (setSource i (fun x =>
      { x with change := changeAfter level (srcDebounce (u.sourceWord i)) x }) u) := by
  rw [inputChange_waits (e := Ev.of u) hst hw]
  exact conclude_of_ceil rfl hc

/-- The transition at once is DEBOUNCED_TRANSITION's, on the state with the change pending. -/
theorem conclude_inputChange_atOnce {i : Fin 5} {level : Bool} {s u : State} (hc : u.ceil = s.ceil)
    (hr : u.resetHeld = false)
    (h : atOnce level (srcDebounce (u.sourceWord i)) (u.arc.sources[i])) (d : Nat) :
    exec (.debouncedTransition i) (setSource i (fun x => { x with change := some ⟨level, d⟩ }) u) =
      .next (conclude s (inputChange i level (Ev.of u))) := by
  have hsource := setSource_self i (fun x => { x with change := some ⟨level, d⟩ }) u
  have hexec := exec_debouncedTransition (i := i) (p := ⟨level, d⟩)
    (s := setSource i (fun x => { x with change := some ⟨level, d⟩ }) u) hr (by rw [hsource]; exact h.1)
    (by rw [hsource])
  rw [hexec, inputChange_atOnce (e := Ev.of u) h, ← debounced_pending i level (some ⟨level, d⟩) (Ev.of u),
    conclude_eq s, ← hc]
  rfl

/-- Settles O28: a change begins, goes on, is cancelled, or is a transition, by `changeAfter` and `atOnce`. -/
theorem lineChangesBeginAndCancel : Obligations.LineChangesBeginAndCancel := by
  intro c i s u h x level d changed
  obtain ⟨hu, hheld, hfree⟩ := exec_inputChange h
  have hceil : u.ceil = s.ceil := by rw [hu]
  have hx : u.arc.sources[i] = x := by rw [hu]
  have hd : srcDebounce (u.sourceWord i) = d := by rw [hu]; rfl
  have hset (p : Option Pending) : setSource i (fun x => { x with change := p }) u = changed p := by
    simp only [setSource, upd, hx, changed]
  have hwaits (hr : s.resetHeld = false) (hst : x.state ≠ .disabled) (hw : ¬atOnce level d x) :
      exec c s = .next (settle (changed (changeAfter level d x))) := by
    have hwait := conclude_inputChange_waits (i := i) (level := level) hceil (by rwa [hx]) (by rwa [hd, hx])
    rw [hd, setSource_congr (g := fun y => { y with change := changeAfter level d x }) i u (by rw [hx]),
      hset] at hwait
    rw [hfree hr, hwait]
  refine ⟨hheld, fun hr => ⟨fun hst => ?_, fun hst hl => ?_, fun hst hl hc => ?_, fun hst hl hc hd0 => ?_,
    fun hst hl hc hd0 => ?_⟩⟩
  · rw [hfree hr, inputChange_disabled (e := Ev.of u) (by rw [Ev.of_st, hx]; exact hst)]
    exact congrArg Host.Outcome.next (conclude_of_ceil rfl hceil)
  · rw [hwaits hr hst fun ⟨_, hne, _⟩ => hne hl, changeAfter, if_pos hl]
  · rw [hwaits hr hst fun ⟨_, _, hnone, _⟩ => hc hnone, changeAfter, if_neg hl, if_neg hc, ← hset,
      setSource_congr (g := id) i u (by rw [hx]; rfl), setSource_id]
  · rw [hwaits hr hst fun ⟨_, _, _, h0⟩ => hd0 h0, changeAfter, if_neg hl, if_pos hc]
  · have honce := conclude_inputChange_atOnce (i := i) (level := level) hceil (by rw [hu]; exact hr)
      (by rw [hd, hx]; exact ⟨hst, hl, hc, hd0⟩) 0
    rw [hset] at honce
    rw [hfree hr, honce]

end Sys2Proof.Machine
end

section
namespace Sys2Proof.Machine

open Sys2Proof Sys2Proof.Config

/-! ## Debounced transitions (R81, R86) -/

/-- A transition that is an arc edge, by the source's polarity (R81, R82). -/
theorem countsEdge_iff (i : Fin 5) (w : Word) (level : Bool) : countsEdge i w level = true ↔
    (if i.val = 4 then level = true else
      match srcPolarity w with
      | .rising => level = true
      | .falling => level = false
      | .both => True) := by
  unfold countsEdge
  by_cases hi : i.val = 4
  · rw [if_pos hi, if_pos hi]
  · rw [if_neg hi, if_neg hi]
    cases srcPolarity w <;> simp

/-- The debouncer's part of a transition: the level is accepted and no change is pending. -/
def accept (i : Fin 5) (level : Bool) (s : State) : State :=
  setSource i (fun x => { x with accepted := level, change := none }) s

theorem accept_steered (i : Fin 5) (level : Bool) (s : State) : steered s (accept i level s) := rfl

theorem accept_state (i : Fin 5) (level : Bool) (s : State) :
    ((accept i level s).arc.sources[i]).state = (s.arc.sources[i]).state := by
  rw [accept, setSource_self]

theorem debounced_edge {i : Fin 5} {level : Bool} {e : Ev} (h : countsEdge i (e.st.sourceWord i) level = true) :
    debounced i level e = disposeEdge i (e.upd (accept i level)) := if_pos h

theorem debounced_no_edge {i : Fin 5} {level : Bool} {e : Ev}
    (h : ¬countsEdge i (e.st.sourceWord i) level = true) :
    debounced i level e = e.upd (accept i level) := if_neg h

section DisposeEdge
variable {i : Fin 5} {e : Ev}

/-- Case 1 of R86. -/
theorem disposeEdge_waiting (h : e.st.arc.proof = some ⟨i, .waiting⟩) : disposeEdge i e = proofPass i e :=
  if_pos h

/-- Case 2 of R86. -/
theorem disposeEdge_passed (h : e.st.arc.proof = some ⟨i, .passed⟩) : disposeEdge i e = e := by
  unfold disposeEdge
  rw [if_neg (by simp [h]), if_pos h]

variable (hw : e.st.arc.proof ≠ some ⟨i, .waiting⟩)
include hw

/-- Case 4 of R86. -/
theorem disposeEdge_blank (hst : e.st.ctl.state = .blank) : disposeEdge i e = e := by
  unfold disposeEdge
  rw [if_neg hw, hst, ite_self]

variable (hp : e.st.arc.proof ≠ some ⟨i, .passed⟩)
include hp

/-- Case 3 of R86. -/
theorem disposeEdge_running (hst : e.st.ctl.state = .run ∨ e.st.ctl.state = .restart) :
    disposeEdge i e = arcEvent (originOf i) e := by
  unfold disposeEdge
  rw [if_neg hw, if_neg hp]
  rcases hst with hst | hst <;> rw [hst]

/-- Cases 5 and 6 of R86. -/
theorem disposeEdge_muted
    (hst : e.st.ctl.state = .standby ∨ e.st.ctl.state = .tripped ∨ e.st.ctl.state = .lockout) :
    disposeEdge i e = if e.st.arc.settle.isSome then e else suspectEdge i e := by
  unfold disposeEdge
  rw [if_neg hw, if_neg hp]
  rcases hst with hst | hst | hst <;> rw [hst]

end DisposeEdge

/-! ## An arc edge with RF on (R102, R104, R105) -/

/-- R102: the interruption list with an entry of origin `o` added. -/
def interrupted (o : Origin) (s : State) : List Interruption :=
  s.ctl.list ++ [⟨s.ms, o, (s.meas.chans[16]).filtered⟩]

/-- R104, R105: the state an interruption of origin `o` leads to. -/
def interruptedState (o : Origin) (s : State) : CtlState :=
  if s.param offLockoutCount ≤ (interrupted o s).length then .lockout else .blank

theorem arcEvent_lockout {o : Origin} {e : Ev} (h : e.st.param offLockoutCount ≤ (interrupted o e.st).length) :
    arcEvent o e = transition .lockout (.origin o) (addInterruption o e) := if_pos (decide_eq_true h)

theorem arcEvent_blank {o : Origin} {e : Ev} (h : ¬e.st.param offLockoutCount ≤ (interrupted o e.st).length) :
    arcEvent o e = (transition .blank (.origin o) (addInterruption o e)).upd
      (fun s => setBlank (some (s.param offBlankTime)) s) :=
  if_neg fun hlock => h (of_decide_eq_true hlock)

/-- What an arc event makes of the state it meets in RESTART or RUN (R50, R88, R99, R102, R105). -/
theorem arcEvent_st (o : Origin) {e : Ev} (hrun : e.st.ctl.state.running = true) :
    (arcEvent o e).st = { e.st with
      ctl := { e.st.ctl with
        state := interruptedState o e.st, inhibit := true, list := interrupted o e.st
        blank := if e.st.param offLockoutCount ≤ (interrupted o e.st).length then e.st.ctl.blank
          else some (e.st.param offBlankTime) }
      ceil := { e.st.ceil with eSys := 0 }
      arc := { e.st.arc with settle := some 50 } } := by
  have hsrc : (addInterruption o e).st.ctl.state.running = true := hrun
  unfold interruptedState
  by_cases h : e.st.param offLockoutCount ≤ (interrupted o e.st).length
  · rw [arcEvent_lockout h, if_pos h, if_pos h, transition_st, enterState, hsrc]
    rfl
  · rw [arcEvent_blank h, if_neg h, if_neg h, Ev.upd_st, transition_st, enterState, hsrc]
    rfl

/-- An INTERRUPTION record stands before the STATE record (R102, R120). -/
theorem arcEvent_out (o : Origin) (e : Ev) : (arcEvent o e).out = e.out ++
    [⟨.interruption, o.code, signedWord (e.st.meas.chans[16]).filtered, word (interrupted o e.st).length⟩,
      ⟨.state, e.st.ctl.state.code, (interruptedState o e.st).code, (StateCause.origin o).code⟩] := by
  unfold interruptedState
  by_cases h : e.st.param offLockoutCount ≤ (interrupted o e.st).length
  · rw [arcEvent_lockout h, if_pos h]
    exact List.append_assoc _ _ _
  · rw [arcEvent_blank h, if_neg h]
    exact List.append_assoc _ _ _

/-- The codes of a source's origin (section 11.2). -/
theorem originOf_code (i : Fin 5) :
    (originOf i).code = word i.val ∧ (StateCause.origin (originOf i)).code = word (2 + i.val) := by
  revert i; decide

/-- Settles O29: the edge is case 3 of R86, and `arcEvent_st` and `arcEvent_out` say what it makes. -/
theorem arcEdgeInterruptsRF : Obligations.ArcEdgeInterruptsRF := by
  intro i p s hr hst hc hedge hw hp hrun now origin forward list locks dst
  have hedge : countsEdge i (s.sourceWord i) p.level = true := (countsEdge_iff _ _ _).mpr hedge
  have hrunning : s.ctl.state.running = true := by rcases hrun with h | h <;> rw [h] <;> rfl
  obtain ⟨horigin, hcause⟩ := originOf_code i
  let e := (Ev.of s).upd (accept i p.level)
  have hevent : debounced i p.level (Ev.of s) = arcEvent (originOf i) e := by
    rw [debounced_edge (e := Ev.of s) hedge, disposeEdge_running hw hp hrun]
  have hst' := arcEvent_st (originOf i) (e := e) hrunning
  have hout := arcEvent_out (originOf i) e
  have hsteered : steered s (arcEvent (originOf i) e).st :=
    (accept_steered i p.level s).trans (arcEvent_only (originOf i) e).steered
  have hsub := hsteered.concluded_submitted
  rw [hout, horigin, hcause] at hsub
  refine ⟨concluded s (arcEvent (originOf i) e), ?_, ?_, ?_, hsteered.concluded_imageFollows, ?_, hsub, ?_⟩
  · rw [exec_debouncedTransition hr hst hc, hevent, conclude_concluded]
  · rw [concluded_ctl, hst']; rfl
  · rw [concluded_ceil, hst']; rfl
  · rw [concluded_arc, hst']; rfl
  · exact hsteered.concluded_changesOnly.narrow (by simp)

/-! ## A new source state (R47, R91) -/

theorem upd_upd {α : Type} {n : Nat} (v : Vector α n) (i : Fin n) (f g : α → α) :
    upd (upd v i f) i g = upd v i (g ∘ f) := by
  simp [upd]

/-- An event that gives a source its new state, with what the arc monitor alone has done before: the unproven
mark and the ceilings follow. -/
theorem concluded_setSourceState {s x : State} (hx : x = { s with arc := x.arc }) (i : Fin 5) (st : SourceState)
    (ds : List Draft) :
    let t := concluded s ⟨setSourceState i st x, ds⟩
    t.ceil.unprovenMark = anyUnproven t.arc ∧ t.ceil.fallbackMark = s.ceil.fallbackMark ∧
      ceilingsFollow s.ceil.eSys s.ceil.eMod t ∧ imageFollows s t ∧ submitted ds s t ∧
      changesOnly [.arc, .ceil, .image, .pub] s t := by
  intro t
  have hceil : x.ceil = s.ceil := by rw [hx]
  have hsteered : steered s (setSourceState i st x) :=
    steered.trans (x := x) (by rw [steered, hx]) (setSourceState_steered i st x)
  have hraw := ungranted_ceilingsFollow s ⟨judgeUnproven (setSource i (fun y => { y with state := st }) x), ds⟩
  refine ⟨rfl, (congrArg Ceilings.fallbackMark hceil :), hceil ▸ hraw, hsteered.concluded_imageFollows,
    hsteered.concluded_submitted, hsteered.concluded_changesOnly_arc ?_⟩
  rw [hx]
  rfl

/-- A source in FAILED or SUSPECT sets the unproven mark. -/
theorem anyUnproven_setSourceState {i : Fin 5} {st : SourceState} (hst : st = .failed ∨ st = .suspect) (s : State) :
    anyUnproven (setSourceState i st s).arc = true := by
  have hself : ((setSourceState i st s).arc.sources[i]).state = st :=
    congrArg Source.state (setSource_self i (fun y => { y with state := st }) s)
  exact anyUnproven_iff.mpr ⟨i, by rw [hself]; exact hst⟩

/-! ## Arc edges with RF off (R86, R89, R93) -/

theorem suspectEdge_suspect {i : Fin 5} {e : Ev} (h : (e.st.arc.sources[i]).state = .suspect) :
    suspectEdge i e = e := if_pos h

theorem suspectEdge_new {i : Fin 5} {e : Ev} (h : (e.st.arc.sources[i]).state ≠ .suspect) :
    suspectEdge i e = (e.upd (setSourceState i .suspect)).draft (suspectDraft i) := if_neg h

/-- Cases 2, 4 and 5 of R86 ignore an edge, and so does case 6 of a source that is SUSPECT already. -/
theorem disposeEdge_ignored {i : Fin 5} {e : Ev}
    (h : e.st.arc.proof = some ⟨i, .passed⟩ ∨
      (e.st.arc.proof ≠ some ⟨i, .waiting⟩ ∧
        (e.st.ctl.state = .blank ∨
          ((e.st.ctl.state = .standby ∨ e.st.ctl.state = .tripped ∨ e.st.ctl.state = .lockout) ∧
            (e.st.arc.settle ≠ none ∨ (e.st.arc.sources[i]).state = .suspect))))) :
    disposeEdge i e = e := by
  by_cases hp : e.st.arc.proof = some ⟨i, .passed⟩
  · exact disposeEdge_passed hp
  obtain ⟨hw, hblank | ⟨hmuted, hwhy⟩⟩ := h.resolve_left hp
  · exact disposeEdge_blank hw hblank
  · rw [disposeEdge_muted hw hp hmuted]
    split
    · rfl
    next hsettle =>
      have hidle : e.st.arc.settle = none := by simpa using hsettle
      exact suspectEdge_suspect (hwhy.resolve_left fun h => h hidle)

/-- Case 6 of R86, of a source that is not SUSPECT (R89). -/
theorem disposeEdge_suspect {i : Fin 5} {e : Ev} (hw : e.st.arc.proof ≠ some ⟨i, .waiting⟩)
    (hp : e.st.arc.proof ≠ some ⟨i, .passed⟩)
    (hst : e.st.ctl.state = .standby ∨ e.st.ctl.state = .tripped ∨ e.st.ctl.state = .lockout)
    (hsettle : e.st.arc.settle = none) (hnew : (e.st.arc.sources[i]).state ≠ .suspect) :
    disposeEdge i e = (e.upd (setSourceState i .suspect)).draft (suspectDraft i) := by
  rw [disposeEdge_muted hw hp hst, hsettle, if_neg (by decide), suspectEdge_new hnew]

/-- Settles O30: an edge that is ignored, by `disposeEdge_ignored`; the PASS and the SUSPECT source, by what a new
source state brings with it. -/
theorem arcEdgesWithRFOff : Obligations.ArcEdgesWithRFOff := by
  refine ⟨fun i p s hr hst hc => ?_, fun i p s hr hst hc hedge => ?_⟩
  · intro edge now muted hwhy
    have hevent : debounced i p.level (Ev.of s) = (Ev.of s).upd (accept i p.level) := by
      by_cases hcount : countsEdge i (s.sourceWord i) p.level = true
      · rw [debounced_edge (e := Ev.of s) hcount]
        have hwhy := hwhy.resolve_left fun hno => hno ((countsEdge_iff _ _ _).mp hcount)
        refine disposeEdge_ignored (hwhy.imp_right (And.imp_right (Or.imp_right fun h => ?_)))
        rcases h with ⟨hm, hsettle⟩ | ⟨hm, hsuspect⟩
        · exact ⟨hm, .inl hsettle⟩
        · exact ⟨hm, .inr ((accept_state i p.level s).trans hsuspect)⟩
      · exact debounced_no_edge (e := Ev.of s) hcount
    rw [exec_debouncedTransition hr hst hc, hevent]
    exact congrArg Host.Outcome.next (conclude_of_ceil rfl rfl)
  · intro becomes hwhy
    have hedge : countsEdge i (s.sourceWord i) p.level = true := (countsEdge_iff _ _ _).mpr hedge
    have hexec := exec_debouncedTransition hr hst hc
    rw [debounced_edge (e := Ev.of s) hedge] at hexec
    have hbecomes (st : SourceState) :
        upd (upd s.arc.sources i fun x => { x with accepted := p.level, change := none }) i
          (fun x => { x with state := st }) = becomes st := upd_upd _ _ _ _
    by_cases hw : s.arc.proof = some ⟨i, .waiting⟩
    · rw [disposeEdge_waiting (e := (Ev.of s).upd (accept i p.level)) hw] at hexec
      obtain ⟨hmark, hfallback, hceil, himage, hsub, hframe⟩ := concluded_setSourceState
        (s := s) (x := endWaiting i (accept i p.level s)) rfl i .passed [proofDraft i true]
      refine ⟨_, hexec, fun _ => ⟨?_, hsub⟩, fun h => absurd hw h, hmark, hfallback, hceil, himage, hframe⟩
      rw [← hbecomes .passed]
      rfl
    · obtain ⟨hp, hsettle, hnew, hmuted⟩ := hwhy.resolve_left hw
      rw [disposeEdge_suspect (e := (Ev.of s).upd (accept i p.level)) hw hp hmuted hsettle
        (by rw [Ev.upd_st, accept_state]; exact hnew)] at hexec
      obtain ⟨hmark, hfallback, hceil, himage, hsub, hframe⟩ := concluded_setSourceState
        (s := s) (x := accept i p.level s) rfl i .suspect [suspectDraft i]
      refine ⟨_, hexec, fun h => absurd h hw, fun _ => ⟨?_, ?_, hsub⟩, hmark, hfallback, hceil, himage, hframe⟩
      · rw [← hbecomes .suspect]
        rfl
      · refine hmark.trans ?_
        rw [concluded_arc]
        exact anyUnproven_setSourceState (.inr rfl) (accept i p.level s)

end Sys2Proof.Machine
end

section
namespace Sys2Proof.Machine

open Sys2Proof Sys2Proof.Config

/-- A command whose event occurs in the state it meets. -/
theorem whenever_of {p : Bool} {s t : State} (h : p = true) : whenever p s t = .next t := by
  rw [h, whenever_true]

/-! ## The proof timer (R94) -/

theorem exec_proofTimerExpiry {s : State} {p : ProofTest} (hr : s.resetHeld = false)
    (hp : s.arc.proof = some p) (ht : s.arc.proofTimer ≠ none) :
    exec .proofTimerExpiry s = .next (match p.phase with
      | .waiting => conclude s (((Ev.of s).upd fun s =>
          setSourceState p.source .failed (setStimulus p.source false (setProof none none s))).draft
            (proofDraft p.source false))
      | .passed => conclude s ((Ev.of s).upd (setProof none none))) := by
  have hguard : (!s.resetHeld && s.arc.proofTimer.isSome) = true := by
    simp [hr, Option.isSome_iff_ne_none, ht]
  show execProofTimerExpiry s = _
  unfold execProofTimerExpiry
  rw [hp]
  dsimp only
  rw [hguard]
  rfl

/-- Settles O31: in phase PASSED only the proof ends, and in phase WAITING its source is FAILED. -/
theorem proofTimerEndsTheProof : Obligations.ProofTimerEndsTheProof := by
  intro s p hr hp ht x now
  have hexec := exec_proofTimerExpiry hr hp ht
  refine ⟨fun hphase => ?_, fun hphase => ?_⟩
  · rw [hexec, hphase]
    exact congrArg Host.Outcome.next (conclude_of_ceil rfl rfl)
  · rw [hphase] at hexec
    obtain ⟨hmark, hfallback, hceil, himage, hsub, hframe⟩ := concluded_setSourceState
      (s := s) (x := setStimulus p.source false (setProof none none s)) rfl p.source .failed
      [proofDraft p.source false]
    refine ⟨_, hexec, rfl, ?_, hfallback, hceil, himage, hsub, hframe⟩
    refine hmark.trans ?_
    rw [concluded_arc]
    exact anyUnproven_setSourceState (.inl rfl) (setStimulus p.source false (setProof none none s))

/-! ## The timers (R51, R88, R103, R109, R111, R156, R160) -/

/-- A transition out of a muted state moves the controller and, into RESTART, E_sys (R51, R99). -/
theorem enterState_of_muted {dst : CtlState} {s : State} (h : s.ctl.state.running = false) :
    enterState dst s = { s with
      ctl := { s.ctl with state := dst, inhibit := !dst.running }
      ceil := { s.ceil with
        eSys := if dst = .restart then min (s.param offRestart) s.ceil.cRaw else s.ceil.eSys } } := by
  simp [enterState, h]

/-- The end of an event of the controller alone that is one transition out of a muted state, `x` being
the state in which it has set its timers. -/
theorem concluded_transition {s x : State} {dst : CtlState} {c : StateCause}
    (hx : x = { s with ctl := x.ctl }) (hmuted : x.ctl.state.running = false) :
    let t := concluded s (transition dst c ⟨x, []⟩)
    t.ctl = { x.ctl with state := dst, inhibit := !dst.running } ∧
      t.ceil = { s.ceil with
        eSys := if dst = .restart then min (s.param offRestart) s.ceil.cRaw else s.ceil.eSys } ∧
      submitted [⟨.state, x.ctl.state.code, dst.code, c.code⟩] s t ∧ imageFollows s t ∧
      changesOnly [.ctl, .ceil, .image, .pub] s t := by
  intro t
  have hst : (transition dst c ⟨x, []⟩).st = { s with
      ctl := { x.ctl with state := dst, inhibit := !dst.running }
      ceil := { s.ceil with
        eSys := if dst = .restart then min (s.param offRestart) s.ceil.cRaw else s.ceil.eSys } } := by
    rw [transition_st, enterState_of_muted hmuted, hx]
    rfl
  have hsteered : steered s (transition dst c ⟨x, []⟩).st := by rw [hst]; rfl
  exact ⟨congrArg State.ctl hst, congrArg State.ceil hst, hsteered.concluded_submitted,
    hsteered.concluded_imageFollows, hsteered.concluded_changesOnly_ctl (congrArg State.arc hst :)⟩

theorem exec_blankExpiry {s : State} (hr : s.resetHeld = false) (hst : s.ctl.state = .blank)
    (hb : s.ctl.blank ≠ none) : exec .blankExpiry s =
      .next (conclude s (transition (if s.ctl.causes.isEmpty then .restart else .tripped) .blankExpiry
        ((Ev.of s).upd (setBlank none)))) := by
  have hguard : (!s.resetHeld && s.ctl.state == .blank && s.ctl.blank.isSome) = true := by
    simp [hr, hst, Option.isSome_iff_ne_none, hb]
  exact whenever_of hguard

theorem exec_systemRecoveryHoldExpiry {s : State} (hr : s.resetHeld = false) (hst : s.ctl.state = .tripped)
    (hh : s.ctl.hold ≠ none) : exec .systemRecoveryHoldExpiry s =
      .next (conclude s (transition .restart .holdExpiry ((Ev.of s).upd (setHold none)))) := by
  have hguard : (!s.resetHeld && s.ctl.state == .tripped && s.ctl.hold.isSome) = true := by
    simp [hr, hst, Option.isSome_iff_ne_none, hh]
  exact whenever_of hguard

/-- R103: the oldest entry leaves when it is due. -/
theorem exec_interruptionEntryRemoval {s : State} {e : Interruption} {rest : List Interruption}
    (hr : s.resetHeld = false) (hl : s.ctl.list = e :: rest)
    (hage : s.param offWindow * 1000 ≤ (s.ms - e.time).toNat) :
    exec .interruptionEntryRemoval s = .next { s with ctl := { s.ctl with list := rest } } := by
  have hguard : s.removalDue = true := by
    rw [State.removalDue, hr, hl]
    exact decide_eq_true hage
  show whenever _ _ _ = _
  rw [hguard, hl]
  rfl

/-- Settles O33: each expiry under its own guard, the controller's two by `concluded_transition`. -/
theorem timerExpiries : Obligations.TimerExpiries := by
  intro s hr begun
  refine ⟨fun hsettle => ?_, fun e rest hl hage => exec_interruptionEntryRemoval hr hl hage, fun htimer => ?_,
    fun htimer => ?_, fun hst hb => ?_, fun hst hh => ?_⟩
  · have hguard : (!s.resetHeld && s.arc.settle.isSome) = true := by
      simp [hr, Option.isSome_iff_ne_none, hsettle]
    exact whenever_of hguard
  · have hguard : (!s.resetHeld && s.checker.timer.isSome) = true := by
      simp [hr, Option.isSome_iff_ne_none, htimer]
    exact whenever_of hguard
  · have hguard : (!s.resetHeld && s.pub.timer.isSome) = true := by
      simp [hr, Option.isSome_iff_ne_none, htimer]
    have hbegun : some (s.pub.snapshot.getD ⟨0, 0⟩) =
        if s.pub.snapshot = none then some ⟨0, 0⟩ else s.pub.snapshot := by
      cases s.pub.snapshot <;> rfl
    rw [← hbegun]
    show whenever _ _ _ = _
    rw [hguard]
    exact congrArg Host.Outcome.next (conclude_of_ceil rfl rfl)
  · have hexec := exec_blankExpiry hr hst hb
    obtain ⟨hctl, hceil, hsub, himage, hframe⟩ := concluded_transition (s := s) (x := setBlank none s)
      (dst := if s.ctl.causes.isEmpty then .restart else .tripped) (c := .blankExpiry) rfl
      (show s.ctl.state.running = false by rw [hst]; rfl)
    have hcode : (setBlank none s).ctl.state.code = 4 := congrArg CtlState.code hst
    rw [hcode] at hsub
    refine ⟨_, hexec, fun hempty => ?_, fun hfull => ?_, himage, hframe⟩
    · simp only [hempty, if_true] at hctl hceil hsub ⊢
      exact ⟨hctl, hceil, hsub⟩
    · simp only [hfull] at hctl hceil hsub ⊢
      exact ⟨hctl, hceil, hsub⟩
  · obtain ⟨hctl, hceil, hsub, himage, hframe⟩ := concluded_transition (s := s) (x := setHold none s)
      (dst := .restart) (c := .holdExpiry) rfl (show s.ctl.state.running = false by rw [hst]; rfl)
    have hcode : (setHold none s).ctl.state.code = 5 := congrArg CtlState.code hst
    rw [hcode] at hsub
    exact ⟨_, exec_systemRecoveryHoldExpiry hr hst hh, hctl, hceil, hsub, himage, hframe⟩

end Sys2Proof.Machine
end

section
namespace Sys2Proof.Machine

open Sys2Proof Sys2Proof.Config

/-! ## The handoff of a source word (R84, R85, R151) -/

/-- R151: the validated word of a source. -/
theorem validSource_eq (w : Word) :
    validSource w = if field w 1 2 = 0 then (w &&& 0x001F) ||| 0x0006 else w &&& 0x001F := by
  have hfield : field (w &&& 0x001F) 1 2 = field w 1 2 := by
    have : (w &&& 0x001F).toNat = w.toNat % 32 := by
      rw [BitVec.toNat_and]; exact Nat.and_two_pow_sub_one_eq_mod w.toNat 5
    simp only [field]
    omega
  simp only [validSource, hfield]

/-- Validation leaves the enable bit as it is written. -/
theorem validSource_enable (w : Word) : bit (validSource w) 0 = bit w 0 := by
  rw [validSource_eq]
  split <;> simp [bit]

section ApplySource
variable {i : Fin 5} {old new : Word} {s : State}

theorem applySource_enable (ho : bit old 0 = false) (hn : bit new 0 = true) :
    applySource i old new s = startDebouncer i (setSourceState i .untested s) := by
  simp [applySource, srcEnable, ho, hn]

theorem applySource_disable (ho : bit old 0 = true) (hn : bit new 0 = false) :
    applySource i old new s =
      setSource i (fun x => { x with change := none }) (setSourceState i .disabled (abandonProof i s)) := by
  simp [applySource, srcEnable, ho, hn]

theorem applySource_same (h : bit old 0 = bit new 0) : applySource i old new s = s := by
  unfold applySource srcEnable
  rw [h, Bool.not_and_self, Bool.and_not_self, if_neg Bool.false_ne_true, if_neg Bool.false_ne_true]

end ApplySource

/-- R95: only a proof of the source itself is abandoned. -/
theorem abandonProof_own {i : Fin 5} {s : State} {p : ProofTest} (hp : s.arc.proof = some p) (hi : p.source = i) :
    abandonProof i s = setStimulus i false (setProof none none s) :=
  if_pos (by simp [hp, hi])

theorem abandonProof_other {i : Fin 5} {s : State} (h : ∀ p, s.arc.proof = some p → p.source ≠ i) :
    abandonProof i s = s := by
  have hany : s.arc.proof.any (fun p => p.source == i) = false := by
    cases hp : s.arc.proof with
    | none => rfl
    | some p => exact beq_false_of_ne (h p hp)
  rw [abandonProof, hany, if_neg Bool.false_ne_true]

theorem abandonProof_arc (i : Fin 5) (s : State) :
    abandonProof i s = { s with arc := (abandonProof i s).arc } ∧
      (abandonProof i s).arc.sources = s.arc.sources := by
  unfold abandonProof
  split <;> exact ⟨rfl, rfl⟩

/-! ### The ceilings after a new source state -/

/-- The ceilings that follow are read from the ceilings and the inputs of a raw ceiling. -/
theorem ceilingsFollow.congr {eSys : Nat} {eMod : Vector Nat 8} {s t : State} (h : ceilingsFollow eSys eMod s)
    (hceil : t.ceil = s.ceil) (hshadow : t.shadow = s.shadow) (hmeas : t.meas = s.meas) (hmis : t.mis = s.mis)
    (hmods : t.mods = s.mods) (hctl : t.ctl = s.ctl) : ceilingsFollow eSys eMod t := by
  have hraw : rawSystem t = rawSystem s := by
    simp only [rawSystem, param_congr hshadow, hceil, hmeas, hmis, hmods]
  have hmod (n : Fin 8) : rawModule t n = rawModule s n := by
    simp only [rawModule, hmeas, hmods]
  unfold ceilingsFollow at h ⊢
  simp only [hraw, hmod, hceil, hmods, hctl]
  exact h

theorem setSource_arc (i : Fin 5) (f : Source → Source) (s : State) :
    setSource i f s = { s with arc := (setSource i f s).arc } := rfl

/-- R83: a debouncer's start changes its source, and no state. -/
theorem startDebouncer_eq (i : Fin 5) (s : State) :
    startDebouncer i s = setSource i (fun x => { x with accepted := s.inputLevel i, change := none }) s := rfl

/-- A new source state brings the unproven mark and the ceilings with it, whatever becomes of the debouncers
and the proof besides (R47, R91). -/
theorem setSourceState_follows {x y : State} {i : Fin 5} {st : SourceState}
    (hy : y = { setSourceState i st x with arc := y.arc })
    (hsources : ∀ j : Fin 5, (y.arc.sources[j]).state = ((setSourceState i st x).arc.sources[j]).state) :
    y.ceil.unprovenMark = anyUnproven y.arc ∧ ceilingsFollow x.ceil.eSys x.ceil.eMod y := by
  have hfollow : ceilingsFollow x.ceil.eSys x.ceil.eMod (setSourceState i st x) :=
    (ungranted_ceilingsFollow x
      ⟨judgeUnproven (setSource i (fun z => { z with state := st }) x), []⟩).congr rfl rfl rfl rfl rfl rfl
  refine ⟨?_, hfollow.congr ?_ ?_ ?_ ?_ ?_ ?_⟩
  · rw [anyUnproven_congr hsources, hy]
    rfl
  all_goals rw [hy]

/-- A source word bears on the arc monitor and the ceilings alone, and not on the fallback mark. -/
theorem applySource_keeps (i : Fin 5) (old new : Word) (s : State) :
    (applySource i old new s).ctl = s.ctl ∧
      (applySource i old new s).ceil.fallbackMark = s.ceil.fallbackMark := by
  obtain ⟨hx, -⟩ := abandonProof_arc i s
  unfold applySource
  split
  · exact ⟨rfl, rfl⟩
  split
  · generalize abandonProof i s = x at hx
    rw [hx]
    exact ⟨rfl, rfl⟩
  · exact ⟨rfl, rfl⟩

/-! ### The handoff -/

theorem offSource_bounds (i : Fin 5) : 1 ≤ offSource i.val ∧ offSource i.val ≤ 0x121 := by
  unfold offSource; omega

/-- The state with source `i`'s word stored. -/
def sourceStored (i : Fin 5) (v : Word) (s : State) : State := s.store (offSource i.val) v

/-- The state the handoff of source `i`'s word leaves, `v` being its validated value. -/
def sourceTaken (i : Fin 5) (a w v : Word) (s : State) : State :=
  submitAll [] (imageReact s.ceil (posted a w v (applySource i (s.sourceWord i) v (sourceStored i v s))))

section SourceTaken
variable {kind : State → Word → Word → Bool} {s : State} {a w : Word} {i : Fin 5}

/-- The blocks a source word bears on, as `applySource` leaves them, and those it reads. -/
@[simp] theorem sourceTaken_frame (i : Fin 5) (a w v : Word) (s : State) :
    let y := applySource i (s.sourceWord i) v (sourceStored i v s)
    (sourceTaken i a w v s).arc = y.arc ∧ (sourceTaken i a w v s).ceil = y.ceil ∧
      (sourceTaken i a w v s).shadow = y.shadow ∧ (sourceTaken i a w v s).meas = y.meas ∧
      (sourceTaken i a w v s).mis = y.mis ∧ (sourceTaken i a w v s).mods = y.mods ∧
      (sourceTaken i a w v s).ctl = y.ctl := by
  simp [sourceTaken, posted]

theorem handoff_source (hw : s.handoffWord = some (a, w)) (ht : s.target a = .source i)
    (hk : kind s a w = true) : handoffOf kind s = .next (sourceTaken i a w (validSource w) s) := by
  have htreat : treat s (s.target a) w =
      ((((Ev.of s).upd (sourceStored i (validSource w))).upd
        (applySource i (s.sourceWord i) (validSource w))).upd startSweep,
        .forward (validSource w) .hostWrite) := by
    rw [ht]; rfl
  exact handoff_forward hw hk htreat

/-- What every handoff of a source word does (R149, R151). -/
theorem sourceTaken_stored (i : Fin 5) (a w v : Word) (s : State) :
    let t := sourceTaken i a w v s
    wordStored (offSource i.val) v s t ∧ sweepStarted s t ∧ forwarded s t a w v .hostWrite ∧
      t.ceil.fallbackMark = s.ceil.fallbackMark ∧ imageFollows s t ∧
      changesOnly [.shadow, .checker, .arc, .ceil, .image, .port, .link] s t := by
  obtain ⟨hlo, hhi⟩ := offSource_bounds i
  obtain ⟨hctl, hfallback⟩ := applySource_keeps i (s.sourceWord i) v (sourceStored i v s)
  have hsteered := applySource_steered i (s.sourceWord i) v (sourceStored i v s)
  unfold sourceTaken
  generalize applySource i (s.sourceWord i) v (sourceStored i v s) = y at hctl hfallback hsteered
  intro t
  obtain ⟨hstored, hsweep, hforward, hblocks⟩ := steered_concluded (a := a) (w := w) (x := ⟨y, []⟩) hlo hhi
    hsteered
  have hpub : t.pub = s.pub := (congrArg State.pub hsteered :)
  exact ⟨hstored, hsweep, hforward, hfallback, imageFollows_concluded (congrArg State.image hsteered :),
    hblocks.narrow (by simpa [sameBlock] using ⟨hctl, hpub⟩)⟩

theorem isSource_eq (ht : s.target a = .source i) (p : Word → Word → Bool) :
    isSource p s a w = p (s.sourceWord i) (validSource w) := by
  rw [isSource, ht]

end SourceTaken

/-- A source word is not the surge level, so every input level stands through its handoff. -/
theorem inputLevel_sourceStored (i j : Fin 5) (v : Word) (s : State) :
    (sourceStored i v s).inputLevel j = s.inputLevel j := by
  obtain ⟨hlo, hhi⟩ := offSource_bounds i
  have hparam : (sourceStored i v s).param offSurgeLevel = s.param offSurgeLevel :=
    congrArg BitVec.toNat ((wordStored_store v hlo hhi).2 offSurgeLevel (by decide)
      (by unfold offSurgeLevel offSource; omega))
  unfold State.inputLevel
  rw [hparam]
  rfl

/-- The mark and the ceilings a handoff leaves are those `applySource` makes. -/
theorem sourceTaken_follows {i : Fin 5} {v : Word} {s x y : State} (a w : Word) {st : SourceState}
    (hx : x.ceil = s.ceil) (happly : applySource i (s.sourceWord i) v (sourceStored i v s) = y)
    (hy : y = { setSourceState i st x with arc := y.arc })
    (hsources : ∀ j : Fin 5, (y.arc.sources[j]).state = ((setSourceState i st x).arc.sources[j]).state) :
    let t := sourceTaken i a w v s
    t.arc = y.arc ∧ t.ceil.unprovenMark = anyUnproven t.arc ∧ ceilingsFollow s.ceil.eSys s.ceil.eMod t := by
  obtain ⟨harc, hceil, hshadow, hmeas, hmis, hmods, hctl⟩ := sourceTaken_frame i a w v s
  rw [happly] at harc hceil hshadow hmeas hmis hmods hctl
  obtain ⟨hmark, hfollow⟩ := setSourceState_follows hy hsources
  rw [hx] at hfollow
  exact ⟨harc, by rw [hceil, harc, hmark], hfollow.congr hceil hshadow hmeas hmis hmods hctl⟩

/-- R83, R84: an enabled source starts UNTESTED, its debouncer from the input as it stands. -/
theorem sourceTaken_enable {i : Fin 5} {v : Word} {s : State} (a w : Word) (ho : bit (s.sourceWord i) 0 = false)
    (hn : bit v 0 = true) :
    let t := sourceTaken i a w v s
    t.arc = { s.arc with sources := s.arc.sources.set i ⟨.untested, s.inputLevel i, none⟩ } ∧
      t.ceil.unprovenMark = anyUnproven t.arc ∧ ceilingsFollow s.ceil.eSys s.ceil.eMod t := by
  have happly := applySource_enable (i := i) (s := sourceStored i v s) ho hn
  rw [startDebouncer_eq] at happly
  obtain ⟨harc, hmark, hfollow⟩ := sourceTaken_follows (s := s) a w (x := sourceStored i v s) (st := .untested) rfl
    happly (setSource_arc i _ _) (setSource_proj Source.state (by intro _; rfl) i _)
  refine ⟨harc.trans ?_, hmark, hfollow⟩
  rw [← inputLevel_sourceStored i i v s]
  exact congrArg (fun v => { s.arc with sources := v }) (upd_upd s.arc.sources i
    (fun y => { y with state := .untested })
    (fun y => { y with accepted := (sourceStored i v s).inputLevel i, change := none }))

/-- R84, R95: a disabled source loses its pending change, and a proof on it is abandoned. -/
theorem sourceTaken_disable {i : Fin 5} {v : Word} {s : State} (a w : Word) (ho : bit (s.sourceWord i) 0 = true)
    (hn : bit v 0 = false) :
    let t := sourceTaken i a w v s
    t.arc.sources = s.arc.sources.set i ⟨.disabled, (s.arc.sources[i]).accepted, none⟩ ∧
      (∀ p, s.arc.proof = some p → p.source = i → t.arc.proof = none ∧ t.arc.proofTimer = none ∧
        t.arc.stimulus = s.arc.stimulus.set i false) ∧
      ((∀ p, s.arc.proof = some p → p.source ≠ i) → t.arc = { s.arc with sources := t.arc.sources }) ∧
      t.ceil.unprovenMark = anyUnproven t.arc ∧ ceilingsFollow s.ceil.eSys s.ceil.eMod t := by
  intro t
  obtain ⟨hx, hkept⟩ := abandonProof_arc i (sourceStored i v s)
  have hown {p : ProofTest} (hp : s.arc.proof = some p) (hi : p.source = i) :=
    abandonProof_own (s := sourceStored i v s) hp hi
  have hother (h : ∀ p, s.arc.proof = some p → p.source ≠ i) := abandonProof_other (s := sourceStored i v s) h
  have happly := applySource_disable (i := i) (s := sourceStored i v s) ho hn
  generalize abandonProof i (sourceStored i v s) = x at hx hkept hown hother happly
  obtain ⟨harc, hmark, hfollow⟩ := sourceTaken_follows (s := s) a w (x := x) (st := .disabled)
    (congrArg State.ceil hx :)
    happly (setSource_arc i _ _) (setSource_proj Source.state (by intro _; rfl) i _)
  have harc : t.arc = { x.arc with sources := upd x.arc.sources i fun z => ⟨.disabled, z.accepted, none⟩ } :=
    harc.trans (congrArg (fun v => { x.arc with sources := v }) (upd_upd x.arc.sources i
      (fun z => { z with state := .disabled }) (fun z => { z with change := none })))
  refine ⟨?_, fun p hp hi => ?_, fun h => ?_, hmark, hfollow⟩
  · rw [harc]
    exact congrArg (fun v => upd v i fun z => ⟨.disabled, z.accepted, none⟩) hkept
  · rw [harc, hown hp hi]
    exact ⟨rfl, rfl, rfl⟩
  · rw [harc, hother h]
    rfl

/-- R85: a change of settings leaves the source as it was. -/
theorem sourceTaken_same {i : Fin 5} {v : Word} {s : State} (a w : Word) (h : bit (s.sourceWord i) 0 = bit v 0) :
    (sourceTaken i a w v s).arc = s.arc ∧ (sourceTaken i a w v s).ceil = s.ceil := by
  obtain ⟨harc, hceil, -⟩ := sourceTaken_frame i a w v s
  rw [applySource_same h] at harc hceil
  exact ⟨harc, hceil⟩

/-- Settles O32: one handoff for the three rows, and its part of the arc monitor by `applySource`'s three cases. -/
theorem sourceWordWrites : Obligations.SourceWordWrites := by
  intro c s a w i hw ht old v hc
  have hv : validSource w = v := validSource_eq w
  have hbit : bit v 0 = bit w 0 := hv ▸ validSource_enable w
  have hkind (p : Word → Word → Bool) : isSource p s a w = p old v := by rw [isSource_eq ht, hv]
  have hexec {kind : State → Word → Word → Bool} (hk : kind s a w = true) :
      handoffOf kind s = .next (sourceTaken i a w v s) := by rw [handoff_source hw ht hk, hv]
  obtain ⟨hstored, hsweep, hforward, hfallback, himage, hblocks⟩ := sourceTaken_stored i a w v s
  rcases hc with ⟨rfl, ho, hn⟩ | ⟨rfl, ho, hn⟩ | ⟨rfl, ho, hn, hdiff⟩
  all_goals rw [← hbit] at hn
  · have hk : isSource enables s a w = true := by simp [hkind, enables, ho, hn]
    exact ⟨_, hexec hk, hstored, hsweep, hforward, fun _ => sourceTaken_enable a w ho hn, nofun, nofun,
      hfallback, himage, hblocks⟩
  · have hk : isSource disables s a w = true := by simp [hkind, disables, ho, hn]
    exact ⟨_, hexec hk, hstored, hsweep, hforward, nofun, fun _ => sourceTaken_disable a w ho hn, nofun,
      hfallback, himage, hblocks⟩
  · have hk : isSourceSetting s a w = true := by
      simpa [isSourceSetting, hkind, staysEnabled, ho, hn] using hdiff
    exact ⟨_, hexec hk, hstored, hsweep, hforward, nofun, nofun, fun _ => sourceTaken_same a w (ho.trans hn.symm),
      hfallback, himage, hblocks⟩

end Sys2Proof.Machine
end

section
namespace Sys2Proof.Machine

open Sys2Proof Sys2Proof.Config

/-! ## The commands NONE, PROOF and the unknown codes (R92, R115, R119) -/

/-- The rest of a command word's handoff: it is forwarded as written. -/
def commandPosted (a w : Word) (s : State) : State :=
  (s.updLink fun l => l.outcome (outcomeOf w w)).begin .hostWrite a (.write w)

/-- The handoff of a command word that submits no record and changes no ceiling. -/
theorem handoff_command {kind : State → Word → Word → Bool} {s : State} {a w : Word} {x : Ev}
    (hw : s.handoffWord = some (a, w)) (ht : s.target a = .command) (hk : kind s a w = true)
    (hx : takeCommand w (Ev.of s) = x) (hout : x.out = []) (hc : x.st.ceil = s.ceil) :
    handoffOf kind s = .next (commandPosted a w x.st) := by
  have htreat : treat s (s.target a) w = (x, .forward w .hostWrite) := by rw [ht, ← hx]; rfl
  rw [handoff_forward hw hk htreat, hout, submitAll_nil]
  exact congrArg Host.Outcome.next (imageReact_of_ceil (s := commandPosted a w x.st) hc)

/-- What the handoff leaves of the other blocks when the command bears on the controller and the arc monitor. -/
theorem commandPosted_frame {s x : State} (a w : Word) (hx : x = { s with ctl := x.ctl, arc := x.arc }) :
    forwarded s (commandPosted a w x) a w w .hostWrite ∧
      changesOnly [.ctl, .arc, .port, .link] s (commandPosted a w x) := by
  rw [hx]
  refine ⟨⟨rfl, rfl⟩, rfl, fun b hb => ?_⟩
  cases b <;> simp at hb <;> simp [sameBlock, commandPosted]

theorem isCommand_of {s : State} {a w : Word} {lo hi : Nat} (ht : s.target a = .command)
    (hlo : lo ≤ cmdCode w) (hhi : cmdCode w ≤ hi) : isCommand lo hi s a w = true := by
  simp [isCommand, ht, hlo, hhi]

section TakeCommand
variable {w : Word} (e : Ev)

theorem takeCommand_none (h : cmdCode w = 0) : takeCommand w e = e := by
  unfold takeCommand
  rw [h]
  rfl

theorem takeCommand_proof (h : cmdCode w = 4) : takeCommand w e = takeProof (cmdSource w) e := by
  unfold takeCommand
  rw [h]
  rfl

/-- A code from 5 on names no command. -/
theorem takeCommand_unknown (h : 5 ≤ cmdCode w) :
    takeCommand w e = e.upd (setCommand (cmdCode w) .unknown) := by
  obtain ⟨n, hn⟩ := Nat.exists_eq_add_of_le' h
  unfold takeCommand
  rw [hn]
  rfl

end TakeCommand

/-! ### The proof a PROOF command begins -/

/-- R92: the tests of a PROOF command in their order. -/
theorem startProof_result (n : Nat) (s : State) : (startProof n s).2 =
    if s.ctl.state ≠ .standby then .refusedState
    else if s.arc.proof ≠ none then .refusedBusy
    else if ∃ i : Fin 5, i.val = n ∧ (s.arc.sources[i]).state ≠ .disabled then .taken
    else .refusedSource := by
  unfold startProof
  split
  · rfl
  split
  next hbusy => rw [if_pos (Option.isSome_iff_ne_none.mp hbusy)]
  next hfree =>
  rw [if_neg fun h => hfree (Option.isSome_iff_ne_none.mpr h)]
  split
  next hn =>
    have hsource : (∃ i : Fin 5, i.val = n ∧ (s.arc.sources[i]).state ≠ .disabled) ↔
        ¬(s.arc.sources[n]).state = .disabled :=
      ⟨fun ⟨i, hi, h⟩ => by subst hi; exact h, fun h => ⟨⟨n, hn⟩, rfl, h⟩⟩
    split
    next hoff => rw [if_neg fun h => hsource.mp h hoff]
    next hon => rw [if_pos (hsource.mpr hon)]
  next hn => rw [if_neg fun ⟨i, hi, _⟩ => hn (hi ▸ i.isLt)]

/-- A PROOF command that is refused begins nothing, and one that is taken begins its proof. -/
theorem startProof_state (n : Nat) (s : State) :
    ((startProof n s).2 ≠ .taken → (startProof n s).1 = s) ∧
    (∀ i : Fin 5, i.val = n → (startProof n s).2 = .taken → (startProof n s).1 =
      setStimulus i true (setProof (some ⟨i, .waiting⟩) (some (s.param offProofWindow)) s)) := by
  unfold startProof
  split
  · exact ⟨fun _ => rfl, nofun⟩
  split
  · exact ⟨fun _ => rfl, nofun⟩
  split
  · split
    · exact ⟨fun _ => rfl, nofun⟩
    · refine ⟨fun h => absurd rfl h, fun i hi _ => ?_⟩
      subst hi
      rfl
  · exact ⟨fun _ => rfl, nofun⟩

/-- Settles O35: NONE, the unknown codes, and PROOF by `startProof_result` and `startProof_state`. -/
theorem proofAndTheOtherCommands : Obligations.ProofAndTheOtherCommands := by
  intro s a w hw ht
  refine ⟨fun hcode => ?_, fun hcode => ?_, fun hcode => ?_⟩
  · obtain ⟨hforward, hframe⟩ := commandPosted_frame (s := s) (x := s) a w rfl
    exact ⟨_, handoff_command hw ht (isCommand_of ht hcode.ge hcode.le) (takeCommand_none _ hcode) rfl rfl,
      hforward, hframe.narrow (by simp [sameBlock, commandPosted])⟩
  · obtain ⟨hforward, hframe⟩ := commandPosted_frame (s := s) (x := setCommand (cmdCode w) .unknown s) a w rfl
    have hmax : cmdCode w ≤ 255 := Nat.le_of_lt_succ (Nat.mod_lt _ (by decide))
    exact ⟨_, handoff_command hw ht (isCommand_of ht hcode hmax) (takeCommand_unknown _ hcode) rfl rfl,
      hforward, rfl, hframe.narrow (by simp [sameBlock, commandPosted, setCommand])⟩
  · intro n result
    have hresult : (startProof n s).2 = result := startProof_result n s
    obtain ⟨hrefused, htaken⟩ := startProof_state n s
    have harc := startProof_arc n s
    rw [hresult] at hrefused htaken
    generalize hx : (startProof n s).1 = x at hrefused htaken harc
    have hevent : takeCommand w (Ev.of s) = (Ev.of x).upd (setCommand 4 result) := by
      rw [takeCommand_proof _ hcode, ← hresult, ← hx]
      rfl
    have hposted : setCommand 4 result x =
        { s with ctl := (setCommand 4 result x).ctl, arc := (setCommand 4 result x).arc } := by
      rw [harc]; rfl
    obtain ⟨hforward, hframe⟩ := commandPosted_frame a w hposted
    refine ⟨_, handoff_command hw ht (isCommand_of ht hcode.ge hcode.le) hevent rfl ?_, hforward, ?_,
      fun h => ?_, fun i hi h => ?_, hframe⟩
    · exact (congrArg State.ceil harc :)
    · exact congrArg (fun y : State => { y.ctl with lastCode := some 4, lastResult := result }) harc
    · exact (congrArg State.arc (hrefused h) :)
    · exact (congrArg State.arc (htaken i hi h) :)

end Sys2Proof.Machine
end

section
/-! # The transmit state controller over every event (chapter 6, sections 3.5, 10.4)

What the shared operations make of the controller, said once for each as a chain of turns; the commands sorted
by what their events do to the controller, the records and the arbiter; and from these the lists and records
kept in bounds, and the only way RF comes on. -/

namespace Sys2Proof.Machine

open Sys2Proof Sys2Proof.Config

/-! ## The turns of the controller in an event -/

/-- The counter, the stored values and the publication unit stand, and E_sys has not risen. -/
structure Behind (s t : State) : Prop where
  ms : t.ms = s.ms
  shadow : t.shadow = s.shadow
  pub : t.pub = s.pub
  eSys : t.ceil.eSys ≤ s.ceil.eSys

/-- `t` agrees with `s` in the controller's state, INHIBIT, the interruption list, E_sys, the counter, the stored
values and the publication unit. -/
def offstage (s t : State) : Prop :=
  t = { t with
    ms := s.ms, shadow := s.shadow, pub := s.pub, ceil := { t.ceil with eSys := s.ceil.eSys }
    ctl := { t.ctl with state := s.ctl.state, inhibit := s.ctl.inhibit, list := s.ctl.list } }

theorem offstage.behind {s t : State} (h : offstage s t) : Behind s t where
  ms := by rw [h]
  shadow := by rw [h]
  pub := by rw [h]
  eSys := by rw [h]

/-- One turn of an event, into no running state and out of no lockout: the controller's state, INHIBIT and list
stand; or a transition into a muted state, not from LOCKOUT; or, from a running state, an interruption and its
transition, to LOCKOUT where the list has reached the lockout count (R102, R104 to R107, R117). -/
inductive Turn (s t : State) : Prop where
  | keeps (hb : Behind s t) (hst : t.ctl.state = s.ctl.state) (hi : t.ctl.inhibit = s.ctl.inhibit)
      (hl : t.ctl.list = s.ctl.list)
  | mutes (hb : Behind s t) (hs : s.ctl.state ≠ .lockout) (hst : t.ctl.state.running = false)
      (hi : t.ctl.inhibit = true) (hl : t.ctl.list = s.ctl.list)
  | interrupts (hb : Behind s t) (hs : s.ctl.state.running = true) (hst : t.ctl.state.running = false)
      (hi : t.ctl.inhibit = true) (o : Origin) (forward : Int)
      (hl : t.ctl.list = s.ctl.list ++ [⟨s.ms, o, forward⟩])
      (hcount : t.ctl.state ≠ .lockout → t.ctl.list.length < s.param offLockoutCount)

/-- The turns of an event, one after the other. -/
abbrev Turns : State → State → Prop := Relation.ReflTransGen Turn

theorem offstage.turns {s t : State} (h : offstage s t) : Turns s t :=
  .single (.keeps h.behind (by rw [h]) (by rw [h]) (by rw [h]))

/-- The computation of the ceilings lowers E_sys at most (R50, R52). -/
theorem recompute_turns (s : State) : Turns s (recompute s) := by
  refine .single (.keeps ⟨rfl, rfl, rfl, ?_⟩ rfl rfl rfl)
  show (if _ then _ else _) ≤ s.ceil.eSys
  split
  · exact Nat.min_le_left _ _
  · exact Nat.zero_le _

theorem enterState_eSys_le {dst : CtlState} (hdst : dst.running = false) (s : State) :
    (enterState dst s).ceil.eSys ≤ s.ceil.eSys := by
  have hne : dst ≠ .restart := by rintro rfl; cases hdst
  show (if _ then _ else _) ≤ s.ceil.eSys
  rw [if_neg hne]
  split
  · exact Nat.zero_le _
  · exact Nat.le_refl _

/-- A transition into a muted state asserts INHIBIT (R99, R108). -/
theorem transition_turns {dst : CtlState} (hdst : dst.running = false) (c : StateCause) {e : Ev}
    (hs : e.st.ctl.state ≠ .lockout) : Turns e.st (transition dst c e).st :=
  .single (.mutes ⟨rfl, rfl, rfl, enterState_eSys_le hdst _⟩ hs hdst (congrArg (!·) hdst) rfl)

/-- An interruption is one entry at the list's end and a transition, to LOCKOUT where the list has reached the
lockout count (R102, R104). -/
theorem interruption_turns {dst : CtlState} (hdst : dst.running = false) (o : Origin) (c : StateCause) {e : Ev}
    (hs : e.st.ctl.state.running = true)
    (hlock : (addInterruption o e).st.atLockout = true → dst = .lockout) :
    Turns e.st (transition dst c (addInterruption o e)).st := by
  refine .single (.interrupts ⟨rfl, rfl, rfl, enterState_eSys_le hdst _⟩ hs hdst (congrArg (!·) hdst) o
    e.st.forward rfl fun hne => ?_)
  by_contra hcount
  exact hne (hlock (decide_eq_true (Nat.le_of_not_lt hcount)))

/-! ### The trip cause set -/

theorem ne_lockout_of_running {st : CtlState} (h : st.running = true) : st ≠ .lockout := by
  rintro rfl; cases h

theorem mismatchInterruption_turns {e : Ev} (hs : e.st.ctl.state.running = true) :
    Turns e.st (mismatchInterruption e).st := by
  unfold mismatchInterruption
  dsimp only
  refine interruption_turns ?_ .mismatch _ hs fun h => if_pos h
  split <;> rfl

/-- R101, R106, R107, R110. -/
theorem causeJoin_turns (m : Cause) (e : Ev) : Turns e.st (causeJoin m e).st := by
  cases hr : e.st.ctl.state.running
  case false => rw [causeJoin_st_of_muted m hr]; exact offstage.turns rfl
  case true =>
    have hset : Turns e.st (e.upd (setCause m true)).st := offstage.turns rfl
    have hst : e.st.ctl.state = .restart ∨ e.st.ctl.state = .run := by
      by_contra hn
      rw [running_eq_false_iff.mpr hn] at hr
      cases hr
    rw [causeJoin_running m hst]
    split
    · exact hset.trans (mismatchInterruption_turns (e := e.upd (setCause m true)) hr)
    · exact hset.trans (transition_turns (e := e.upd (setCause m true)) rfl _ (ne_lockout_of_running hr))

theorem causeLeave_turns (m : Cause) (e : Ev) : Turns e.st (causeLeave m e).st := by
  unfold causeLeave
  dsimp only
  split <;> exact offstage.turns rfl

theorem causeChange_turns (m : Cause) (was now : Bool) (e : Ev) : Turns e.st (causeChange m was now e).st := by
  cases was <;> cases now
  · exact .refl
  · exact causeJoin_turns m e
  · exact causeLeave_turns m e
  · exact .refl

/-! ### The measurement blocks -/

theorem setModule_turns (n : Fin 8) (st : ModState) (hold : Timer) (w : Word) (e : Ev) :
    Turns e.st (setModule n st hold w e).st := offstage.turns rfl

theorem rebalance_turns (e : Ev) : Turns e.st (rebalance e).st :=
  have hcount : Turns e.st { e.st with mods := recount e.st.mods } := offstage.turns rfl
  hcount.trans (causeChange_turns .modules e.st.mods.flag (recount e.st.mods).flag
    (e.upd fun s => { s with mods := recount s.mods }))

theorem reportTrip_turns (c : Fin 25) (was now : Bool) (e : Ev) : Turns e.st (reportTrip c was now e).st := by
  rcases reportTrip_cases c was now e with k | ⟨-, st, hold, -, k⟩ | ⟨-, i, k⟩ <;> rw [k]
  · exact (setModule_turns ..).trans (rebalance_turns _)
  · exact causeChange_turns ..

theorem changeChan_turns (c : Fin 25) (ch : Channel) (e : Ev) : Turns e.st (changeChan c ch e).st := by
  have hset : Turns e.st (replaced c ch e).st := by rw [replaced_st]; exact offstage.turns rfl
  rw [changeChan_eq]
  exact hset.trans (reportTrip_turns ..)

theorem changeMismatch_turns (m : Mismatch) (e : Ev) : Turns e.st (changeMismatch m e).st :=
  have hset : Turns e.st { e.st with mis := m } := offstage.turns rfl
  hset.trans (causeChange_turns .mismatch e.st.mis.flag m.flag (e.upd fun s => { s with mis := m }))

theorem arrive_turns (c : Fin 25) (rails : Bool) (raw : Nat) (e : Ev) :
    Turns e.st (arrive c rails raw e).st := by
  simp only [arrive]
  split
  · exact (changeChan_turns ..).trans (changeMismatch_turns ..)
  · exact changeChan_turns ..

theorem applyChannelWord0_turns (c : Fin 25) (old : ChanCfg) (e : Ev) :
    Turns e.st (applyChannelWord0 c old e).st := by
  unfold applyChannelWord0
  dsimp only
  split
  · exact offstage.turns rfl
  split
  · split
    · exact (changeChan_turns ..).trans (changeMismatch_turns ..)
    · exact changeChan_turns ..
  split
  · exact offstage.turns rfl
  · exact .refl

theorem applyFoldSetting_turns (c : Fin 25) (e : Ev) : Turns e.st (applyFoldSetting c e).st := by
  rw [applyFoldSetting_cases]
  split
  · exact offstage.turns rfl
  · exact .refl

theorem applyChannelWord_turns (c : Fin 25) (k : Nat) (old : ChanCfg) (e : Ev) :
    Turns e.st (applyChannelWord c k old e).st := by
  unfold applyChannelWord
  split
  · exact applyChannelWord0_turns ..
  · exact applyFoldSetting_turns ..
  · exact applyFoldSetting_turns ..
  · exact applyFoldSetting_turns ..
  · exact .refl

theorem presentChange_turns (old new : Word) (e : Ev) (n : Fin 8) :
    Turns e.st (presentChange old new e n).st := by
  rw [show (presentChange old new e n).st = _ from presentChange_moved old new e n]
  exact offstage.turns rfl

theorem applyPresentMask_turns (old new : Word) (e : Ev) : Turns e.st (applyPresentMask old new e).st := by
  unfold applyPresentMask
  split
  · exact .refl
  · refine .trans ?_ (rebalance_turns _)
    exact List.foldlRecOn (motive := fun e' : Ev => Turns e.st e'.st) _ _ .refl fun e' he' n _ =>
      he'.trans (presentChange_turns old new e' n)

/-! ### The arc monitor -/

theorem setSource_turns (i : Fin 5) (f : Source → Source) (s : State) : Turns s (setSource i f s) :=
  offstage.turns rfl

theorem setSourceState_turns (i : Fin 5) (st : SourceState) (s : State) : Turns s (setSourceState i st s) :=
  have hjudged : Turns s (judgeUnproven (setSource i (fun x => { x with state := st }) s)) := offstage.turns rfl
  hjudged.trans (recompute_turns _)

/-- R105: an arc event in a running state. -/
theorem arcEvent_turns (o : Origin) {e : Ev} (hs : e.st.ctl.state.running = true) :
    Turns e.st (arcEvent o e).st := by
  unfold arcEvent
  dsimp only
  split
  · exact interruption_turns rfl o _ hs fun _ => rfl
  next hcount => exact (interruption_turns rfl o _ hs fun h => absurd h hcount).trans (offstage.turns rfl)

theorem proofPass_turns (i : Fin 5) (e : Ev) : Turns e.st (proofPass i e).st :=
  have hset : Turns e.st (setStimulus i false
    (setProof (some { source := i, phase := .passed }) e.st.arc.proofTimer e.st)) := offstage.turns rfl
  hset.trans (setSourceState_turns i .passed _)

theorem suspectEdge_turns (i : Fin 5) (e : Ev) : Turns e.st (suspectEdge i e).st := by
  unfold suspectEdge
  split
  · exact .refl
  · exact setSourceState_turns i .suspect e.st

theorem disposeEdge_turns (i : Fin 5) (e : Ev) : Turns e.st (disposeEdge i e).st := by
  unfold disposeEdge
  split
  · exact proofPass_turns i e
  split
  · exact .refl
  split
  next hst => exact arcEvent_turns _ (by rw [hst]; rfl)
  next hst => exact arcEvent_turns _ (by rw [hst]; rfl)
  next => exact .refl
  next => exact .refl
  all_goals
    split
    · exact .refl
    · exact suspectEdge_turns i e

theorem debounced_turns (i : Fin 5) (level : Bool) (e : Ev) : Turns e.st (debounced i level e).st := by
  have hset : Turns e.st (e.upd (setSource i (fun x => { x with accepted := level, change := none }))).st :=
    setSource_turns ..
  unfold debounced
  dsimp only
  split
  · exact hset.trans (disposeEdge_turns i _)
  · exact hset

theorem inputChange_turns (i : Fin 5) (level : Bool) (e : Ev) : Turns e.st (inputChange i level e).st := by
  unfold inputChange
  dsimp only
  split
  · exact .refl
  split
  · exact setSource_turns ..
  split
  · exact .refl
  split
  · exact debounced_turns i level e
  · exact setSource_turns ..

theorem applySource_turns (i : Fin 5) (old new : Word) (s : State) : Turns s (applySource i old new s) := by
  have habandon : Turns s (abandonProof i s) := by
    unfold abandonProof
    split
    · exact offstage.turns rfl
    · exact .refl
  unfold applySource
  split
  · exact (setSourceState_turns i .untested s).trans (setSource_turns ..)
  split
  · exact (habandon.trans (setSourceState_turns i .disabled _)).trans (setSource_turns ..)
  · exact .refl

theorem changeVerdict_turns (v : Verdict) (computed : Word) (e : Ev) :
    Turns e.st (changeVerdict v computed e).st := by
  unfold changeVerdict
  split
  · exact .refl
  · have hset : Turns e.st { e.st with
        checker := { e.st.checker with verdict := v }
        ceil := { e.st.ceil with fallbackMark := v != .agree } } := offstage.turns rfl
    exact hset.trans (recompute_turns _)

end Sys2Proof.Machine
end

section
namespace Sys2Proof.Machine

open Sys2Proof Sys2Proof.Config

/-! ## Commands and configuration words -/

/-- An entry into RESTART from a muted state other than LOCKOUT (R109, R111, R112, R116). -/
structure Restarts (s t : State) : Prop where
  ms : t.ms = s.ms
  shadow : t.shadow = s.shadow
  pub : t.pub = s.pub
  list : t.ctl.list = s.ctl.list
  muted : s.ctl.state.running = false
  unlocked : s.ctl.state ≠ .lockout
  state : t.ctl.state = .restart

/-- What an event makes of the controller: turns, or an entry into RESTART. -/
def leads (s t : State) : Prop := Turns s t ∨ Restarts s t

theorem Turns.leads {s t : State} (h : Turns s t) : leads s t := .inl h

theorem leads.refl (s : State) : leads s s := .inl .refl

/-- What leaves the controller alone may follow. -/
theorem leads.offstage {s x t : State} (h : leads s x) (k : offstage x t) : leads s t := by
  rcases h with h | h
  · exact .inl (h.trans k.turns)
  · rw [k]; exact .inr ⟨h.ms, h.shadow, h.pub, h.list, h.muted, h.unlocked, h.state⟩

/-- A transition into RESTART, the controller's timers and last command having been set. -/
theorem transition_leads {dst : CtlState} (hdst : dst = .restart ∨ dst.running = false) (c : StateCause) {s : State}
    {e : Ev} (he : offstage s e.st) (hs : s.ctl.state.running = false) (hlock : s.ctl.state ≠ .lockout) :
    leads s (transition dst c e).st := by
  have hst : e.st.ctl.state = s.ctl.state := by rw [he]
  rcases hdst with rfl | hdst
  · refine .inr ⟨?_, ?_, ?_, ?_, hs, hlock, rfl⟩ <;> rw [transition_st, he] <;> rfl
  · exact .inl (he.turns.trans (transition_turns hdst c (hst ▸ hlock)))

/-- R116: RESUME leaves STANDBY alone. -/
theorem takeResume_leads (e : Ev) : leads e.st (takeResume e).st := by
  have hset : offstage e.st (e.upd (setCommand 1 (resumeResult e.st))).st := rfl
  unfold takeResume
  dsimp only
  split
  next hc =>
    have hst : e.st.ctl.state = .standby := hc.1
    refine transition_leads ?_ _ hset (by rw [hst]; rfl) (by rw [hst]; decide)
    split
    · exact .inl rfl
    · exact .inr rfl
  next => exact hset.turns.leads

/-- R117: STANDBY leads to STANDBY, and is refused in LOCKOUT. -/
theorem takeStandby_turns (e : Ev) : Turns e.st (takeStandby e).st := by
  have hstandby {x : Ev} (hx : offstage e.st x.st) (hst : e.st.ctl.state ≠ .lockout) :
      Turns e.st (transition .standby .commandStandby x).st := by
    refine hx.turns.trans (transition_turns rfl _ ?_)
    rw [hx]
    exact hst
  unfold takeStandby
  split
  next => exact offstage.turns rfl
  next hst => exact hstandby rfl (by simp [hst])
  next hst => exact hstandby rfl (by simp [hst])
  next hst => exact hstandby rfl (by simp [hst])
  next hst => exact hstandby rfl (by simp [hst])
  next => exact offstage.turns rfl
  next => exact offstage.turns rfl

theorem takeProof_turns (n : Nat) (e : Ev) : Turns e.st (takeProof n e).st := by
  show Turns e.st (setCommand 4 _ (startProof n e.st).1)
  rw [startProof_arc]
  exact offstage.turns rfl

/-- Every command but RELEASE turns the controller or takes it to RESTART (R115 to R119). -/
theorem takeCommand_leads {w : Word} (hw : cmdCode w ≠ 3) (e : Ev) : leads e.st (takeCommand w e).st := by
  unfold takeCommand
  split
  · exact .refl _
  · exact takeResume_leads e
  · exact (takeStandby_turns e).leads
  next h => exact absurd h hw
  · exact (takeProof_turns _ e).leads
  · exact .inl (offstage.turns rfl)

theorem takeCommand_release {w : Word} (hw : cmdCode w = 3) (e : Ev) : takeCommand w e = takeRelease e := by
  unfold takeCommand
  rw [hw]
  rfl

theorem applyParam_turns {off : Nat} (hoff : off ≠ offWindow) (old new : Word) (e : Ev) :
    Turns e.st (applyParam off old new e).st := by
  unfold applyParam
  split
  · exact (applyPresentMask_turns old new e).trans (recompute_turns _)
  split
  · exact recompute_turns _
  split
  · exact offstage.turns rfl
  split
  · exact inputChange_turns ..
  · exact .refl

theorem applyLevelMask_offstage (old new : Word) (s : State) : offstage s (applyLevelMask old new s) := by
  rw [show applyLevelMask old new s = _ from applyLevelMask_only old new s]
  rfl

/-- Beyond its storing, a taken word turns the controller at most, except the consumed index's, which is the
publication unit's, and the interruption window's (R103, R149). -/
theorem applyConfig_turns (s : State) {t : Target} (ht : t ≠ .consumed ∧ t ≠ .param offWindow) (off : Nat) (v : Word)
    (hoff : t.offset = some off) : Turns (s.store off v) (applyConfig s t off v (Ev.of s)).st := by
  unfold applyConfig
  dsimp only
  split
  · exact absurd rfl ht.1
  next p =>
    obtain rfl : p = off := Option.some.inj hoff
    exact applyParam_turns (fun h => ht.2 (by rw [h])) (s.word p) v ((Ev.of s).upd fun s => s.store p v)
  · exact (applyLevelMask_offstage (s.word off) v (s.store off v)).turns
  · exact applySource_turns ..
  next c k =>
    have hword := applyChannelWord_turns c k.val (s.chanCfg c) ((Ev.of s).upd fun s => s.store off v)
    refine hword.trans ?_
    show Turns _ ((if _ then recompute else id) _)
    split
    · exact recompute_turns _
    · exact .refl
  · exact .refl

/-- What the blocks do at the handoff of a word of value `w` and target `t` (R129, R149). -/
inductive Treated (s : State) (t : Target) (w : Word) : State → Prop where
  | leads {x : State} (hx : leads s x) : Treated s t w x
  | released (ht : t = .command) (hw : cmdCode w = 3) : Treated s t w (takeRelease (Ev.of s)).st
  | stored {off : Nat} {v : Word} (ht : t ≠ .consumed ∧ t ≠ .param offWindow) (hoff : t.offset = some off)
      (hv : s.judge t w = .taken v) {x : State} (hx : Turns (s.store off v) x) : Treated s t w x
  | windowed {v : Word} (hv : s.judge (.param offWindow) w = .taken v) {x : State}
      (hx : offstage (trimInterruptions (s.store offWindow v)) x) : Treated s t w x
  | consumed (hw : consumedTaken (s.word offConsumed) w s.pub.writeIndex = true) {x : State}
      (hx : offstage { s.store offConsumed w with pub := consumedWritten w s.pub } x) : Treated s t w x

theorem sweepAfter_offstage (t : Target) (e : Ev) : offstage e.st (sweepAfter t e).st := by
  unfold sweepAfter
  split <;> rfl

theorem dispose_offstage (a w : Word) (d : Disposal) (s : State) : offstage s (dispose a w d s) := by
  cases d <;> rfl

/-- A taken configuration word. -/
theorem applyConfig_treated {s : State} {t : Target} {off : Nat} {v : Word} (w : Word) (hoff : t.offset = some off)
    (hv : s.judge t w = .taken v) : Treated s t w (sweepAfter t (applyConfig s t off v (Ev.of s))).st := by
  have hsweep := sweepAfter_offstage t (applyConfig s t off v (Ev.of s))
  by_cases hc : t = .consumed
  · subst hc
    obtain rfl : offConsumed = off := Option.some.inj hoff
    unfold State.judge at hv
    dsimp only at hv
    split at hv
    next hw =>
      obtain rfl : w = v := Judged.taken.inj hv
      exact .consumed hw hsweep
    next => cases hv
  by_cases hp : t = .param offWindow
  · subst hp
    obtain rfl : offWindow = off := Option.some.inj hoff
    exact .windowed hv hsweep
  · exact .stored ⟨hc, hp⟩ hoff hv ((applyConfig_turns s ⟨hc, hp⟩ off v hoff).trans hsweep.turns)

theorem treat_treated (s : State) (t : Target) (w : Word) : Treated s t w (treat s t w).1.st := by
  unfold treat
  dsimp only
  split
  · exact .leads (.refl s)
  · by_cases hw : cmdCode w = 3
    · dsimp only
      rw [takeCommand_release hw]
      exact .released rfl hw
    · exact .leads (takeCommand_leads hw (Ev.of s))
  · exact .leads (.refl s)
  · exact .leads (.refl s)
  · exact .leads (.inl (offstage.turns rfl))
  · exact .leads (.refl s)
  · split
    next v off hv hoff => exact applyConfig_treated w hoff hv
    next => exact .leads ((leads.refl s).offstage (sweepAfter_offstage _ _))

/-! ## The table load -/

/-- The two parameters that bound the interruption list are within their ranges (R150). -/
def listBounded (s : State) : Prop := s.param offLockoutCount ≤ 8 ∧ s.param offWindow ≤ 600

/-- The table load goes on, and what it stores is validated. -/
structure Loads (s t : State) : Prop where
  on : loadsOn s t
  bounded : listBounded s → listBounded t

theorem Loads.trans {s x t : State} (h : Loads s x) (k : Loads x t) : Loads s t :=
  ⟨h.on.trans k.on, k.bounded ∘ h.bounded⟩

/-- An access issued or completed stores nothing. -/
theorem Loads.of_shadow {s t : State} (h : loadsOn s t) (hs : t.shadow = s.shadow) : Loads s t := by
  refine ⟨h, fun hb => ?_⟩
  unfold listBounded
  rw [param_congr hs, param_congr hs]
  exact hb

theorem word_store_of_ne {s : State} {off k : Nat} (v : Word) (h : off - 1 ≠ k - 1) :
    (s.store off v).word k = s.word k := by
  simp [State.word, State.store, h]

/-- A stored word that respects the range of each of the two parameters keeps them bounded. -/
theorem listBounded_store {s : State} (h : listBounded s) {off : Nat} {v : Word}
    (hcount : off = offLockoutCount → v.toNat ≤ 8) (hwindow : off = offWindow → v.toNat ≤ 600) :
    listBounded (s.store off v) := by
  have hread (k : Nat) (hlow : 2 ≤ k) (hhigh : k ≤ 0x121) :
      (s.store off v).param k = if off = k then v.toNat else s.param k := by
    split
    next hoff =>
      subst hoff
      exact congrArg BitVec.toNat (wordStored_store v (by omega) hhigh).1
    next hoff => exact congrArg BitVec.toNat (word_store_of_ne v (by omega))
  obtain ⟨hc, hw⟩ := h
  constructor
  · rw [hread offLockoutCount (by decide) (by decide)]
    split
    next hoff => exact hcount hoff
    next => exact hc
  · rw [hread offWindow (by decide) (by decide)]
    split
    next hoff => exact hwindow hoff
    next => exact hw

theorem judgeParam_lockoutCount {w v : Word} (h : judgeParam offLockoutCount w = .taken v) : v.toNat ≤ 8 := by
  have hv : word (max 2 (min 8 w.toNat)) = v :=
    Judged.taken.inj ((judge_param (s := State.reset) w (by decide) rfl (by decide) (by decide)).symm.trans h)
  rw [← hv, word_toNat (by omega)]
  omega

theorem judgeParam_window {w v : Word} (h : judgeParam offWindow w = .taken v) : v.toNat ≤ 600 := by
  have hv : word (max 1 (min 600 w.toNat)) = v :=
    Judged.taken.inj ((judge_param (s := State.reset) w (by decide) rfl (by decide) (by decide)).symm.trans h)
  rw [← hv, word_toNat (by omega)]
  omega

/-- R150, R154: the load validates the two parameters too. -/
theorem listBounded_loadValue {s : State} (h : listBounded s) (off : Nat) (v : Word) :
    listBounded (s.store off (loadValue off v)) := by
  refine listBounded_store h ?_ ?_ <;> rintro rfl
  · exact judgeParam_lockoutCount (w := v) (v := loadValue offLockoutCount v) rfl
  · exact judgeParam_window (w := v) (v := loadValue offWindow v) rfl

/-- How an event of the table load ends: it reads on, or the load completes. -/
inductive LoadMoves (s : State) : Ev → Prop where
  | on {e : Ev} (h : Loads s e.st) : LoadMoves s e
  | completes {e : Ev} (h : Loads s e.st) : LoadMoves s (loadComplete e)

theorem loadOn_loads {s : State} {e : Ev} (h : Loads s e.st) : LoadMoves s (loadOn e) := by
  unfold loadOn
  split
  · exact .completes h
  · exact .on (h.trans (.of_shadow rfl rfl))

theorem writeBackOr_loads {s : State} {e : Ev} (h : Loads s e.st) (off : Nat) (read valid : Word) :
    LoadMoves s (writeBackOr off read valid e) := by
  unfold writeBackOr
  split
  · exact loadOn_loads h
  · exact .on (h.trans (.of_shadow rfl rfl))

theorem loadWord_loads (s : State) (off : Nat) (v : Word) :
    LoadMoves s (loadWord off v ((Ev.of s).upd State.portFree)) := by
  have hfree : Loads s s.portFree := .of_shadow rfl rfl
  have hstored : Loads s (s.portFree.store off (loadValue off v)) :=
    hfree.trans ⟨rfl, fun h => listBounded_loadValue h off v⟩
  have hmask (x : State) (m : Word) : Loads x (x.store offLevelMask m) :=
    ⟨rfl, fun h => listBounded_store h (absurd · (by decide)) (absurd · (by decide))⟩
  unfold loadWord
  dsimp only
  split
  · exact loadOn_loads (hfree.trans (.of_shadow rfl rfl))
  · split
    · exact writeBackOr_loads (hstored.trans (hmask _ _)) _ _ _
    · exact writeBackOr_loads hstored _ _ _

end Sys2Proof.Machine
end

section
namespace Sys2Proof.Machine

open Sys2Proof Sys2Proof.Config

/-! ## The arbiter has nothing left to grant (R133) -/

/-- A grant of the arbiter's makes the port busy, so a state that is settled had none to make. -/
theorem settled_iff {s : State} : settled s ↔ s.resetHeld = false → s.port.inFlight = none →
    (∀ off rest, s.port.class1 ≠ .tableRead off :: rest) ∧
    (∀ off v rest, s.port.class1 ≠ .writeBack off v :: rest) ∧
    (s.port.class1 = [] → s.image.queue = [] →
      (∀ p, s.stepped = some p → p.preRead = none) ∧ (s.stepped = none → s.readOffered = false)) := by
  constructor
  · intro h hr hp
    have hidle : s.portIdle = true := by simp [State.portIdle, hr, hp]
    have hbusy {x : State} {p : Purpose} {a : Word} {k : AccessKind} : x.begin p a k ≠ s := by
      intro hx
      rw [← hx] at hp
      cases hp
    unfold settled settle at h
    rw [if_pos hidle] at h
    refine ⟨fun off rest hc => ?_, fun off v rest hc => ?_, fun hc hq => ⟨fun p hs => ?_, fun hs => ?_⟩⟩
    · rw [hc] at h; exact hbusy h
    · rw [hc] at h; exact hbusy h
    · simp only [hc, hq, hs, if_true] at h
      by_contra hpre
      rw [if_pos (Option.isSome_iff_ne_none.mpr hpre)] at h
      exact hbusy h
    · simp only [hc, hq, hs, if_true] at h
      by_contra hread
      rw [if_pos (Bool.eq_true_of_not_eq_false hread)] at h
      exact hbusy h
  · intro h
    rcases settle_cases s with k | ⟨hr, hp, k⟩
    · exact k
    · obtain ⟨hread, hback, hidle⟩ := h hr hp
      rcases k with ⟨off, rest, hc, -⟩ | ⟨off, v, rest, hc, -⟩ | ⟨hc, hq, ⟨p, c, hs, hpre, -⟩ | ⟨hs, hoff, -⟩⟩
      · exact absurd hc (hread off rest)
      · exact absurd hc (hback off v rest)
      · rw [(hidle hc hq).1 p hs] at hpre; cases hpre
      · rw [(hidle hc hq).2 hs] at hoff; cases hoff

/-- What the arbiter's own grants read, but for a READ being served. -/
theorem settled.congr {s t : State} (h : settled s) (hr : t.resetHeld = s.resetHeld) (hp : t.port = s.port)
    (hi : t.image = s.image) (hs : t.stepped = s.stepped) (hl : t.readOffered = true → s.readOffered = true) :
    settled t := by
  rw [settled_iff] at h ⊢
  rw [hr, hp, hi, hs]
  intro hheld hfree
  obtain ⟨hread, hback, hidle⟩ := h hheld hfree
  refine ⟨hread, hback, fun hc hq => ⟨(hidle hc hq).1, fun hnone => ?_⟩⟩
  by_contra hoffered
  rw [hl (Bool.eq_true_of_not_eq_false hoffered)] at hidle
  exact absurd ((hidle hc hq).2 hnone) (by decide)

/-- A link that is not SERVING offers no read. -/
theorem readOffered_of_state {s : State} (h : s.link.state ≠ .serving) : s.readOffered = false := by
  simp [State.readOffered, h]

theorem conclude_settled (s : State) (e : Ev) : settled (conclude s e) := settle_settle _

/-! ## Records (R162, R163) -/

/-- `recordsRight` of a publication unit beside a consumed index. -/
def pubRight (w : Word) (p : Publication) : Prop :=
  p.fifo.length ≤ 8 ∧ p.lost ≤ 65535 ∧ (p.current ≠ none → ringFull w p = false)

theorem recordsRight_iff {s : State} : recordsRight s ↔ pubRight (s.word offConsumed) s.pub := Iff.rfl

theorem pubRight.ringTest {w : Word} {p : Publication} (h : pubRight w p) : pubRight w (ringTest w p) := by
  obtain ⟨hfifo, hlost, hring⟩ := h
  rcases ringTest_cases w p with k | ⟨hnone, -, k⟩ <;> rw [k]
  · exact ⟨hfifo, hlost, hring⟩
  · exact ⟨Nat.zero_le _, Nat.min_le_left _ _, fun hc => absurd hnone hc⟩

theorem pubRight.submit {w : Word} {p : Publication} (h : pubRight w p) (r : Record) :
    pubRight w (submit w r p) := by
  obtain ⟨hfifo, hlost, hring⟩ := h
  unfold Machine.submit
  split
  next hroom =>
    refine pubRight.ringTest ⟨?_, hlost, hring⟩
    simp only [List.length_append, List.length_singleton]
    omega
  next => exact ⟨hfifo, Nat.min_le_left _ _, hring⟩

theorem submitAll_recordsRight {s : State} (h : recordsRight s) (ds : List Draft) :
    recordsRight (submitAll ds s) :=
  List.foldlRecOn (motive := pubRight (s.word offConsumed)) ds _ h fun _ hp _ _ => hp.submit _

theorem conclude_recordsRight {s : State} {e : Ev} (h : recordsRight e.st) : recordsRight (conclude s e) := by
  have hsub : recordsRight (submitAll e.out (imageReact s.ceil e.st)) := submitAll_recordsRight h _
  have hpub : (conclude s e).pub = (submitAll e.out (imageReact s.ceil e.st)).pub := by
    rw [conclude_eq]; simp
  have hword : (conclude s e).word offConsumed = e.st.word offConsumed := word_congr (by simp) _
  rw [recordsRight_iff, hpub, hword]
  exact hsub

/-- A record that the test of the ring leaves at the head of the FIFO has a free slot beside its own. -/
theorem ringFull_of_head {w : Word} {p : Publication} {r : Record} {rest : List Record} (hnone : p.current = none)
    (hhead : (ringTest w p).fifo = r :: rest) : ringFull w (ringTest w p) = false := by
  rcases ringTest_cases w p with k | ⟨-, -, k⟩
  · rw [k]
    by_contra hfull
    rw [Bool.not_eq_false] at hfull
    simp [Machine.ringTest, hnone, hfull] at hhead
  · rw [k] at hhead; cases hhead

/-- R161, R163: the record in progress goes on, or the FIFO's head begins. -/
theorem grantPublication_recordsRight {s : State} (h : recordsRight s) : recordsRight (grantPublication s) := by
  have htest : pubRight (s.word offConsumed) (ringTest (s.word offConsumed) s.pub) := pubRight.ringTest h
  obtain ⟨hfifo, hlost, hring⟩ := h
  unfold grantPublication
  split
  next hc =>
    split
    · exact ⟨hfifo, hlost, fun _ => hring (by simp [hc])⟩
    · exact ⟨hfifo, hlost, hring⟩
  next hnone =>
    dsimp only
    split
    next r rest hhead =>
      obtain ⟨htfifo, htlost, -⟩ := htest
      rw [hhead] at htfifo
      exact ⟨Nat.le_of_succ_le htfifo, htlost, fun _ => ringFull_of_head hnone hhead⟩
    next =>
      split
      · split <;> exact htest
      · exact htest

theorem recordDone_recordsRight {s : State} (h : recordsRight s) (m : Word) :
    pubRight (s.word offConsumed) (recordDone m (s.word offConsumed) s.pub) := by
  obtain ⟨hfifo, hlost, hring⟩ := h
  unfold recordDone
  split
  · split
    · exact pubRight.ringTest ⟨hfifo, hlost, fun hc => absurd rfl hc⟩
    · exact ⟨hfifo, hlost, hring⟩
  · exact ⟨hfifo, hlost, hring⟩

theorem snapshotDone_recordsRight {s : State} (h : recordsRight s) :
    pubRight (s.word offConsumed) (snapshotDone s.pub) := by
  unfold snapshotDone
  split
  · split <;> exact h
  · exact h

/-- R153, R163: a consumed index that is taken does not pass the write index, so it leaves a free slot where
there was one. -/
theorem consumedTaken_notFull {old new : Word} {p : Publication} (h : consumedTaken old new p.writeIndex = true)
    (hold : ringFull old p = false) : ringFull new p = false := by
  unfold consumedTaken at h
  simp only [Bool.and_eq_true, decide_eq_true_eq] at h
  obtain ⟨-, hle⟩ := h
  unfold ringFull at hold ⊢
  simp only [beq_eq_false_iff_ne] at hold ⊢
  generalize Fin.ofNat 32 old.toNat = c at hle hold
  intro hnew
  rw [← hnew] at hle
  generalize p.writeIndex = i at hle hold
  revert i c
  decide

theorem consumedWritten_recordsRight {s : State} {w : Word} (h : recordsRight s)
    (hw : consumedTaken (s.word offConsumed) w s.pub.writeIndex = true) :
    pubRight w (consumedWritten w s.pub) := by
  obtain ⟨hfifo, hlost, hring⟩ := h
  exact pubRight.ringTest ⟨hfifo, hlost, fun hc => consumedTaken_notFull hw (hring hc)⟩

end Sys2Proof.Machine
end

section
namespace Sys2Proof.Machine

open Sys2Proof Sys2Proof.Config

/-! ## The commands sorted -/

/-- What command `c` can make of `s`: a change aside from the controller and the records that offers the arbiter
no grant; an event that turns the controller or takes it to RESTART; the oldest interruption's leaving; a reset;
the handoff of a host word; an event of the publication unit; a ramp expiry; an event of the table load. -/
inductive Brings (s : State) : Instr → State → Prop where
  | aside {c : Instr} {t : State} (ht : offstage s t) (hs : settled s → settled t) : Brings s c t
  | event {c : Instr} {e : Ev} (he : leads s e.st) : Brings s c (conclude s e)
  | removed {c : Instr} (hd : s.removalDue = true) :
      Brings s c { s with ctl := { s.ctl with list := s.ctl.list.tail } }
  | reset (k : ResetKind) : Brings s (.reset k) { State.reset with
      resetKind := k
      arc := { Arc.reset with lines := s.arc.lines, surgeInput := s.arc.surgeInput }
      pending := s.pending }
  | handed {c : Instr} {a w : Word} (hw : s.handoffWord = some (a, w))
      (hc : s.target a = .command → cmdCode w = 3 → c = .release) : Brings s c (takeHostWord s a w)
  | published {c : Instr} {e : Ev} (he : offstage { s with pub := e.st.pub } e.st)
      (hp : recordsRight s → recordsRight e.st) : Brings s c (conclude s e)
  | ramped (hr : s.resetHeld = false) : Brings s .rampExpiry (conclude s (ramped s))
  | loads {c : Instr} (hl : s.loaded = false) {e : Ev} (he : LoadMoves s e) : Brings s c (conclude s e)

theorem Brings.nothing (s : State) (c : Instr) : Brings s c s := .aside rfl id

/-- A command with a guard either does its event or nothing. -/
theorem brings_whenever {p : Bool} {s t t' : State} {c : Instr} (h : whenever p s t = .next t')
    (ht : p = true → Brings s c t) : Brings s c t' := by
  cases p
  · cases h; exact .nothing s c
  · cases h; exact ht rfl

/-- A guarded event that turns the controller at most. -/
theorem brings_event {p : Bool} {s t' : State} {c : Instr} {e : Ev} (h : whenever p s (conclude s e) = .next t')
    (he : leads s e.st) : Brings s c t' :=
  brings_whenever h fun _ => .event he

theorem brings_turns {p : Bool} {s t' : State} {c : Instr} {e : Ev} (h : whenever p s (conclude s e) = .next t')
    (he : Turns s e.st) : Brings s c t' :=
  brings_event h (.inl he)

/-- A guarded event that leaves the controller alone. -/
theorem brings_offstage {p : Bool} {s t' : State} {c : Instr} {e : Ev} (h : whenever p s (conclude s e) = .next t')
    (he : offstage s e.st) : Brings s c t' :=
  brings_turns h he.turns

/-- A guarded change that neither the controller nor the arbiter heeds. -/
theorem brings_aside {p : Bool} {s t t' : State} {c : Instr} (h : whenever p s t = .next t') (ht : offstage s t)
    (hs : p = true → settled s → settled t) : Brings s c t' :=
  brings_whenever h fun hp => .aside ht (hs hp)

/-- A guarded event of the publication unit. -/
theorem brings_published {p : Bool} {s t' : State} {c : Instr} {e : Ev} (h : whenever p s (conclude s e) = .next t')
    (he : offstage { s with pub := e.st.pub } e.st) (hp : recordsRight s → recordsRight e.st) : Brings s c t' :=
  brings_whenever h fun _ => .published he hp

/-! ### Handoffs -/

/-- Every handoff row hands off the word offered, or does nothing; RELEASE's row alone takes its command. -/
theorem brings_handoff {kind : State → Word → Word → Bool} {s t : State} {c : Instr}
    (h : handoffOf kind s = .next t)
    (hc : ∀ a w, kind s a w = true → s.target a = .command → cmdCode w = 3 → c = .release) : Brings s c t := by
  unfold handoffOf at h
  split at h
  next a w hw =>
    exact brings_whenever h fun hk => .handed hw (hc a w hk)
  next => cases h; exact .nothing s c

/-- A row of a kind of target. -/
theorem brings_target {p : Target → Bool} {s t : State} {c : Instr} (h : handoffOf (isTarget p) s = .next t)
    (hp : p .command = false) : Brings s c t :=
  brings_handoff h fun a w hk ht _ => by
    rw [isTarget, ht, hp] at hk; cases hk

/-- A row of commands of other codes. -/
theorem brings_command {lo hi : Nat} {s t : State} {c : Instr} (h : handoffOf (isCommand lo hi) s = .next t)
    (hcode : 3 < lo ∨ hi < 3) : Brings s c t :=
  brings_handoff h fun a w hk ht hw => by
    simp only [isCommand, hw, Bool.and_eq_true, decide_eq_true_eq] at hk
    omega

theorem isSource_command {p : Word → Word → Bool} {s : State} {a : Word} (ht : s.target a = .command) (w : Word) :
    isSource p s a w = false := by
  simp [isSource, ht]

theorem isChannel0_command {p : Word → Word → Bool} {s : State} {a : Word} (ht : s.target a = .command) (w : Word) :
    isChannel0 p s a w = false := by
  simp [isChannel0, ht]

theorem brings_source {p : Word → Word → Bool} {s t : State} {c : Instr}
    (h : handoffOf (isSource p) s = .next t) : Brings s c t :=
  brings_handoff h fun a w hk ht _ => by
    rw [isSource_command ht] at hk; cases hk

theorem brings_channel0 {p : Word → Word → Bool} {s t : State} {c : Instr}
    (h : handoffOf (isChannel0 p) s = .next t) : Brings s c t :=
  brings_handoff h fun a w hk ht _ => by
    rw [isChannel0_command ht] at hk; cases hk

theorem calibrationWrite_brings {s t : State} {c : Instr} (h : execCalibrationWrite s = .next t) : Brings s c t :=
  brings_handoff h fun a w hk ht _ => by
    rw [isCalibration, isShiftChange, isChannel0_command ht, isTarget, ht] at hk; cases hk

theorem writeWord_brings {s t : State} {c : Instr} (h : execWriteWord s = .next t) : Brings s c t :=
  brings_handoff h fun a w hk ht _ => by
    rw [hasOwnRow, ht] at hk; cases hk

/-! ### The other commands -/

theorem tableLoadReadCompletion_brings {s t : State} {c : Instr} {v : Word}
    (h : execTableLoadReadCompletion v s = .next t) : Brings s c t := by
  unfold execTableLoadReadCompletion at h
  split at h
  · exact brings_whenever h fun hp => .loads (loaded_of_loading hp) (loadWord_loads s _ v)
  · cases h; exact .nothing s c

theorem writeBackCompletion_brings {s t : State} {c : Instr} (h : execWriteBackCompletion s = .next t) :
    Brings s c t := by
  unfold execWriteBackCompletion at h
  split at h
  · exact brings_whenever h fun hp => .loads (loaded_of_loading hp) (loadOn_loads (.of_shadow rfl rfl))
  · cases h; exact .nothing s c

theorem flowGateExpiry_brings {s t : State} {c : Instr} (h : execFlowGateExpiry s = .next t) : Brings s c t := by
  have hgate : Turns s (startGate (setPulses 0 s)) := offstage.turns rfl
  refine brings_whenever h fun _ => ?_
  dsimp only
  split
  · exact .event (.inl ((hgate.trans (arrive_turns 24 false s.meas.pulses (Ev.of _))).trans (recompute_turns _)))
  · exact .event (.inl hgate)

theorem captureReadGrant_brings {s t : State} {c : Instr} (h : execCaptureReadGrant s = .next t) :
    Brings s c t := by
  unfold execCaptureReadGrant at h
  split at h
  · exact brings_aside h rfl fun _ _ => settle_of_busy (by simp)
  · cases h; exact .nothing s c

theorem captureReadCompletion_brings {s t : State} {c : Instr} {m : Word}
    (h : execCaptureReadCompletion m s = .next t) : Brings s c t := by
  unfold execCaptureReadCompletion at h
  split at h
  · exact brings_offstage h rfl
  · cases h; exact .nothing s c

theorem imageWriteGrant_brings {s t : State} {c : Instr} (h : execImageWriteGrant s = .next t) :
    Brings s c t := by
  unfold execImageWriteGrant at h
  split at h
  · split at h
    · exact brings_aside h rfl fun _ _ => settle_of_busy (by simp)
    · cases h; exact .nothing s c
  · cases h; exact .nothing s c

theorem imageWriteCompletion_brings {s t : State} {c : Instr} (h : execImageWriteCompletion s = .next t) :
    Brings s c t := by
  unfold execImageWriteCompletion at h
  split at h
  · exact brings_offstage h rfl
  · cases h; exact .nothing s c

theorem hostLevelWriteCompletion_brings {s t : State} {c : Instr} (h : execHostLevelWriteCompletion s = .next t) :
    Brings s c t := by
  unfold execHostLevelWriteCompletion at h
  split at h
  · exact brings_offstage h rfl
  · cases h; exact .nothing s c

/-- An input that moves: in reset only the pin, else the debouncer of its source (log entry 5). -/
theorem inputChange_brings {s u : State} {c : Instr} (hu : pinned s u) (i : Fin 5) (level : Bool) :
    Brings s c (if s.resetHeld then u else conclude s (inputChange i level (Ev.of u))) := by
  have hoff : offstage s u := by rw [hu]; rfl
  split
  · exact .aside hoff fun hs => hs.congr (by rw [hu]) (by rw [hu]) (by rw [hu]) (by rw [hu]) (by rw [hu]; exact id)
  · exact .event (.inl (hoff.turns.trans (inputChange_turns i level (Ev.of u))))

theorem debouncedTransition_brings {s t : State} {c : Instr} {i : Fin 5}
    (h : execDebouncedTransition i s = .next t) : Brings s c t := by
  unfold execDebouncedTransition at h
  split at h
  next p _ => exact brings_turns h (debounced_turns i p.level (Ev.of s))
  next => cases h; exact .nothing s c

theorem proofTimerExpiry_brings {s t : State} {c : Instr} (h : execProofTimerExpiry s = .next t) :
    Brings s c t := by
  unfold execProofTimerExpiry at h
  split at h
  next => cases h; exact .nothing s c
  next p _ =>
    refine brings_whenever h fun _ => ?_
    split
    · have hended : Turns s (setStimulus p.source false (setProof none none s)) := offstage.turns rfl
      exact .event (.inl (hended.trans (setSourceState_turns p.source .failed _)))
    · exact .event (.inl (offstage.turns rfl))

theorem blankExpiry_brings {s t : State} {c : Instr} (h : execBlankExpiry s = .next t) : Brings s c t := by
  refine brings_whenever h fun hp => .event ?_
  have hst : s.ctl.state = .blank := by simp at hp; exact hp.1.2
  refine transition_leads ?_ _ rfl (by rw [hst]; rfl) (by rw [hst]; decide)
  split
  · exact .inl rfl
  · exact .inr rfl

theorem systemRecoveryHoldExpiry_brings {s t : State} {c : Instr} (h : execSystemRecoveryHoldExpiry s = .next t) :
    Brings s c t := by
  refine brings_whenever h fun hp => .event ?_
  have hst : s.ctl.state = .tripped := by simp at hp; exact hp.1.2
  exact transition_leads (.inl rfl) _ rfl (by rw [hst]; rfl) (by rw [hst]; decide)

theorem reportLink_st (k : LinkSubject) (l : Link) (e : Ev) : (reportLink k l e).st = e.st := by
  unfold reportLink
  split <;> rfl

theorem requestFrame_brings {s t : State} {c : Instr} {w : Word} {mark : Bool}
    (h : execRequestFrame w mark s = .next t) : Brings s c t := by
  refine brings_offstage h ?_
  split
  · rw [reportLink_st]; rfl
  · rw [reportLink_st]; rfl
  · rfl
  · rfl

theorem stallTimerExpiry_brings {s t : State} {c : Instr} (h : execStallTimerExpiry s = .next t) :
    Brings s c t :=
  brings_offstage h (by rw [reportLink_st]; rfl)

theorem stepPreReadCompletion_brings {s t : State} {c : Instr} {v : Word}
    (h : execStepPreReadCompletion v s = .next t) : Brings s c t := by
  unfold execStepPreReadCompletion at h
  split at h
  · exact brings_offstage h rfl
  · cases h; exact .nothing s c

theorem sweepCompletion_brings {s t : State} {c : Instr} (h : execSweepCompletion s = .next t) : Brings s c t := by
  unfold execSweepCompletion at h
  split at h
  next => cases h; exact .nothing s c
  next =>
    have hidle : Turns s { s with checker := { s.checker with sweep := .idle } } := offstage.turns rfl
    exact brings_turns h (hidle.trans (changeVerdict_turns _ _ (Ev.of _)))

/-- R161: a grant bears on the publication unit and the port. -/
theorem grantPublication_offstage (s : State) :
    offstage { s with pub := (grantPublication s).pub } (grantPublication s) := by
  unfold grantPublication
  split
  · split <;> rfl
  · dsimp only
    split
    · rfl
    · split
      · split <;> rfl
      · rfl

/-- A change of the link that leaves it out of SERVING offers the arbiter no read. -/
theorem updLink_settled {s : State} {f : Link → Link} (h : (f s.link).state ≠ .serving) :
    settled s → settled (s.updLink f) :=
  fun hs => hs.congr rfl rfl rfl rfl fun hr => by
    rw [readOffered_of_state (s := s.updLink f) h] at hr; cases hr

/-- Every command's outcome is one of the kinds. -/
theorem exec_brings {c : Instr} {s t : State} (h : exec c s = .next t) : Brings s c t := by
  cases c with
  | reset k => cases h; exact .reset k
  | resetRelease => exact brings_offstage h rfl
  | tableLoadReadCompletion => exact tableLoadReadCompletion_brings h
  | writeBackCompletion => exact writeBackCompletion_brings h
  | sampleArrival ch raw =>
    exact brings_turns h ((arrive_turns ch true raw.toNat (Ev.of s)).trans (recompute_turns _))
  | flowPulse => exact brings_aside h rfl fun _ hs => hs.congr rfl rfl rfl rfl id
  | flowGateExpiry => exact flowGateExpiry_brings h
  | moduleRecoveryHoldExpiry n =>
    exact brings_turns h (((setModule_turns n .on none noneWord (Ev.of s)).trans (rebalance_turns _)).trans
      (recompute_turns _))
  | rampExpiry => exact brings_whenever h fun hp => .ramped (by simp at hp; exact hp.1)
  | captureReadGrant => exact captureReadGrant_brings h
  | captureReadCompletion => exact captureReadCompletion_brings h
  | imageWriteGrant => exact imageWriteGrant_brings h
  | imageWriteCompletion => exact imageWriteCompletion_brings h
  | hostLevelWriteCompletion => exact hostLevelWriteCompletion_brings h
  | pendingChange i high => exact brings_whenever h fun _ => inputChange_brings (by rfl) i high
  | surgeComparatorChange r => cases h; exact inputChange_brings (by rfl) 4 _
  | debouncedTransition => exact debouncedTransition_brings h
  | muteSettleExpiry => exact brings_aside h rfl fun _ hs => hs.congr rfl rfl rfl rfl id
  | proofTimerExpiry => exact proofTimerExpiry_brings h
  | blankExpiry => exact blankExpiry_brings h
  | systemRecoveryHoldExpiry => exact systemRecoveryHoldExpiry_brings h
  | interruptionEntryRemoval => exact brings_whenever h fun hd => .removed hd
  | release => exact brings_handoff h fun _ _ _ _ _ => rfl
  | resume | standby | commandNone => exact brings_command h (.inr (by decide))
  | proof | unknownCommand => exact brings_command h (.inl (by decide))
  | linkHeader | responseSent => exact brings_aside h rfl fun _ => updLink_settled (by simp [Link.reset])
  | frameWord =>
    exact brings_aside h rfl fun hp => updLink_settled (by simp at hp; simp [hp.1.2])
  | discardedWord => cases h; exact .nothing s _
  | requestFrame w mark => exact requestFrame_brings (w := w) (mark := mark) h
  | stallTimerExpiry => exact stallTimerExpiry_brings h
  | hostReadCompletion | hostWriteCompletion => exact brings_offstage h rfl
  | stepPreReadCompletion => exact stepPreReadCompletion_brings h
  | hostLevelWord | consumedIndexWrite | levelEnableMaskWrite | levelAddressWrite | guardWordAWrite
  | guardBaseStepWrite | surgeLevelWrite | foldSettingWrite | tripLevelWrite | presentMaskWrite
  | mismatchParameterWrite | limitCapWrite | interruptionWindowWrite => exact brings_target h rfl
  | writeWord => exact writeWord_brings h
  | sourceEnable | sourceDisable | sourceSettingChange => exact brings_source h
  | channelEnable | channelDisable | directionChange | persistenceLower => exact brings_channel0 h
  | calibrationWrite => exact calibrationWrite_brings h
  | sweepCompletion => exact sweepCompletion_brings h
  | sweepTimerExpiry => exact brings_aside h rfl fun _ hs => hs.congr rfl rfl rfl rfl id
  | snapshotTimerExpiry => exact brings_published h rfl id
  | publicationWriteGrant =>
    exact brings_published h (grantPublication_offstage s) grantPublication_recordsRight
  | snapshotWordCompletion => exact brings_published h rfl snapshotDone_recordsRight
  | recordWordCompletion => exact brings_published h rfl fun hs => recordDone_recordsRight hs _

end Sys2Proof.Machine
end

section
namespace Sys2Proof.Machine

open Sys2Proof Sys2Proof.Config

/-! ## RF comes on only through RESTART and the ramp (R50, R51, R54, R55, R99, R113) -/

/-- RF is nowhere turned on: no running state is entered, E_sys does not rise and INHIBIT is not released. -/
structure Restrains (s t : State) : Prop where
  running : t.ctl.state.running = true → t.ctl.state = s.ctl.state
  eSys : t.ceil.eSys ≤ s.ceil.eSys
  inhibit : t.ctl.inhibit = false → s.ctl.inhibit = false

theorem Restrains.trans {s x t : State} (h : Restrains s x) (k : Restrains x t) : Restrains s t where
  running hr := by
    have hx := k.running hr
    exact hx.trans (h.running (hx ▸ hr))
  eSys := k.eSys.trans h.eSys
  inhibit hi := h.inhibit (k.inhibit hi)

/-- What reads the controller's state, INHIBIT and E_sys alone. -/
theorem Restrains.congr {s t : State} (hst : t.ctl.state = s.ctl.state) (hi : t.ctl.inhibit = s.ctl.inhibit)
    (he : t.ceil.eSys ≤ s.ceil.eSys) : Restrains s t :=
  ⟨fun _ => hst, he, fun h => hi.symm.trans h⟩

/-- What leads into a muted state with INHIBIT asserted. -/
theorem Restrains.of_muted {s t : State} (hst : t.ctl.state.running = false) (hi : t.ctl.inhibit = true)
    (he : t.ceil.eSys ≤ s.ceil.eSys) : Restrains s t where
  running hr := by rw [hst] at hr; cases hr
  eSys := he
  inhibit h := by rw [hi] at h; cases h

theorem offstage.restrains {s t : State} (h : offstage s t) : Restrains s t :=
  .congr (by rw [h]) (by rw [h]) (by rw [h])

theorem Turn.restrains {s t : State} (h : Turn s t) : Restrains s t := by
  cases h with
  | keeps hb hst hi _ => exact .congr hst hi hb.eSys
  | mutes hb _ hst hi _ => exact .of_muted hst hi hb.eSys
  | interrupts hb _ hst hi => exact .of_muted hst hi hb.eSys

theorem Turns.restrains {s t : State} (h : Turns s t) : Restrains s t := by
  induction h with
  | refl => exact .congr rfl rfl (Nat.le_refl _)
  | tail _ hturn ih => exact ih.trans hturn.restrains

/-- LOCKOUT is left by no turn (R104, R114). -/
theorem Turns.lockout {s t : State} (h : Turns s t) (hs : s.ctl.state = .lockout) : t.ctl.state = .lockout := by
  induction h with
  | refl => exact hs
  | tail _ hturn ih =>
    cases hturn with
    | keeps _ hst => exact hst.trans ih
    | mutes _ hne => exact absurd ih hne
    | interrupts _ hrun => rw [ih] at hrun; cases hrun

/-- R118: RELEASE leads to STANDBY, or only notes its refusal. -/
theorem takeRelease_restrains (e : Ev) : Restrains e.st (takeRelease e).st := by
  unfold takeRelease
  split
  · exact .of_muted rfl rfl (enterState_eSys_le rfl _)
  · exact offstage.restrains rfl

/-- A handoff turns RF on nowhere, or it enters RESTART; and only RELEASE's leaves LOCKOUT. -/
theorem Treated.cases {s x : State} {t : Target} {w : Word} (h : Treated s t w x) :
    (Restrains s x ∧ ((s.ctl.state = .lockout → x.ctl.state = .lockout) ∨ t = .command ∧ cmdCode w = 3)) ∨
      Restarts s x := by
  cases h with
  | leads hx =>
    rcases hx with hx | hx
    · exact .inl ⟨hx.restrains, .inl hx.lockout⟩
    · exact .inr hx
  | released ht hw => exact .inl ⟨takeRelease_restrains (Ev.of s), .inr ⟨ht, hw⟩⟩
  | @stored off v _ _ _ _ hx =>
    have hstore : Restrains s (s.store off v) := .congr rfl rfl (Nat.le_refl _)
    exact .inl ⟨hstore.trans hx.restrains, .inl hx.lockout⟩
  | windowed _ hx => exact .inl ⟨.congr (by rw [hx]; rfl) (by rw [hx]; rfl) (by rw [hx]; rfl),
      .inl fun hs => by rw [hx]; exact hs⟩
  | consumed _ hx => exact .inl ⟨.congr (by rw [hx]; rfl) (by rw [hx]; rfl) (by rw [hx]; rfl),
      .inl fun hs => by rw [hx]; exact hs⟩

/-! ### The four sentences -/

/-- What the statement says of one outcome of command `c`. -/
def rfComesOn (c : Instr) (s t : State) : Prop :=
  (s.ctl.state ≠ .run → t.ctl.state = .run →
    c = .rampExpiry ∧ s.ctl.state = .restart ∧ t.ceil.eSys = t.ceil.cRaw) ∧
  (s.ceil.eSys < t.ceil.eSys → c = .rampExpiry ∨ (s.ctl.state ≠ .restart ∧ t.ctl.state = .restart)) ∧
  (rfSafe s → s.ctl.inhibit = true → t.ctl.inhibit = false → s.ctl.state ≠ .restart ∧ t.ctl.state = .restart) ∧
  (startsAtLoad s → s.ctl.state = .lockout → t.ctl.state ≠ .lockout → c = .release ∨ ∃ k, c = .reset k)

/-- An outcome that turns RF on nowhere. -/
theorem Restrains.rfComesOn {c : Instr} {s t : State} (h : Restrains s t)
    (hlock : startsAtLoad s → s.ctl.state = .lockout →
      t.ctl.state = .lockout ∨ c = .release ∨ ∃ k, c = .reset k) :
    rfComesOn c s t := by
  refine ⟨fun hne hrun => ?_, fun hlt => absurd hlt (Nat.not_lt.mpr h.eSys), fun _ hs hi => ?_,
    fun hstart hs ht => ?_⟩
  · exact absurd ((h.running (by rw [hrun]; rfl)).symm.trans hrun) hne
  · rw [h.inhibit hi] at hs; cases hs
  · exact (hlock hstart hs).resolve_left ht

/-- An entry into RESTART. -/
theorem Restarts.rfComesOn {s t : State} (h : Restarts s t) (c : Instr) : rfComesOn c s t := by
  have hentry : s.ctl.state ≠ .restart ∧ t.ctl.state = .restart := by
    refine ⟨fun hs => ?_, h.state⟩
    have hmuted := h.muted
    rw [hs] at hmuted
    cases hmuted
  refine ⟨fun _ hrun => ?_, fun _ => .inr hentry, fun _ _ _ => hentry, fun _ hs => absurd hs h.unlocked⟩
  rw [h.state] at hrun
  cases hrun

theorem leads.rfComesOn {s t : State} (h : leads s t) (c : Instr) : rfComesOn c s t := by
  rcases h with h | h
  · exact h.restrains.rfComesOn fun _ hs => .inl (h.lockout hs)
  · exact h.rfComesOn c

/-- R55, R113: a ramp expiry takes RESTART to RUN, and no other state anywhere. -/
theorem ramped_rfComesOn {s : State} (hr : s.resetHeld = false) : rfComesOn .rampExpiry s (ramped s).st := by
  by_cases h : s.ctl.state = .restart ∧ (rampStep s).ceil.eSys = s.ceil.cRaw
  · have hrun : ramped s = _ := ceilingReached_runs (e := (Ev.of s).upd rampStep) h.1 h.2
    rw [hrun]
    refine ⟨fun _ _ => ⟨rfl, h.1, h.2⟩, fun _ => .inl rfl, fun ⟨hinh, _⟩ hs _ => ?_, fun _ hs => ?_⟩
    · rw [hinh, hr, h.1] at hs; cases hs
    · rw [h.1] at hs; cases hs
  · have hkeep : ramped s = (Ev.of s).upd rampStep := ceilingReached_keeps (e := (Ev.of s).upd rampStep) h
    rw [hkeep]
    exact ⟨fun hne hrun => absurd hrun hne, fun _ => .inl rfl,
      fun _ hs hi => absurd (hs.symm.trans hi) (by decide), fun _ hs ht => absurd hs ht⟩

/-- Load completion leads to STANDBY. -/
theorem loadComplete_restrains (e : Ev) : Restrains e.st (loadComplete e).st := by
  have hstarted : Restrains e.st (started e.st) := by rw [started_only e.st]; exact .congr rfl rfl (Nat.le_refl _)
  have hstandby : Restrains (started e.st) (enterState .standby (started e.st)) :=
    .of_muted rfl rfl (enterState_eSys_le rfl _)
  rw [loadComplete_st]
  exact (hstarted.trans hstandby).trans (recompute_turns _).restrains

theorem loads_restrains {s : State} {e : Ev} (h : LoadMoves s e) : Restrains s e.st := by
  have hon {x : State} (hx : Loads s x) : Restrains s x := by rw [hx.on]; exact .congr rfl rfl (Nat.le_refl _)
  cases h with
  | on he => exact hon he
  | completes he => exact (hon he).trans (loadComplete_restrains _)

/-- The conclusion of an event bears on none of it. -/
theorem conclude_rfComesOn {c : Instr} {s : State} {e : Ev} (h : rfComesOn c s e.st) :
    rfComesOn c s (conclude s e) := by
  unfold rfComesOn at h ⊢
  simpa using h

/-- The part that waits for its load is in START, not in LOCKOUT (R98, R155). -/
theorem not_lockout_of_unloaded {s : State} (hstart : startsAtLoad s) (hl : s.loaded = false) :
    s.ctl.state ≠ .lockout := by
  obtain ⟨-, -, -, -, -, -, -, hctl, -⟩ := hstart.2 hl
  rw [hctl]
  decide

/-- Settles O59: by the kinds of a command's outcome. -/
theorem rfComesOnOnlyThroughRestart : Obligations.RFComesOnOnlyThroughRestart := by
  intro c s t hexec
  show rfComesOn c s t
  cases exec_brings hexec with
  | aside ht _ => exact (Turns.leads ht.turns).rfComesOn c
  | event he => exact conclude_rfComesOn (he.rfComesOn c)
  | removed _ => exact Restrains.rfComesOn (.congr rfl rfl (Nat.le_refl _)) fun _ hs => .inl hs
  | reset k => exact Restrains.rfComesOn (.of_muted rfl rfl (Nat.zero_le _)) fun _ _ => .inr (.inr ⟨k, rfl⟩)
  | @handed _ a w hw hc =>
    have hdisposed := dispose_offstage a w (treat s (s.target a) w).2 (treat s (s.target a) w).1.st
    refine conclude_rfComesOn ?_
    rcases (treat_treated s (s.target a) w).cases with ⟨hx, hlock⟩ | hx
    · refine (hx.trans hdisposed.restrains).rfComesOn fun _ hs => ?_
      rcases hlock with hlock | ⟨ht, hcode⟩
      · exact .inl (hdisposed.turns.lockout (hlock hs))
      · exact .inr (.inl (hc ht hcode))
    · exact ((leads.offstage (.inr hx) hdisposed)).rfComesOn c
  | @published _ e he _ =>
    refine conclude_rfComesOn (Restrains.rfComesOn ?_ fun _ hs => .inl ?_)
    · exact .congr (by rw [he]) (by rw [he]) (by rw [he])
    · rw [he]; exact hs
  | ramped hr => exact conclude_rfComesOn (ramped_rfComesOn hr)
  | loads hl he =>
    exact conclude_rfComesOn ((loads_restrains he).rfComesOn fun hstart hs =>
      absurd hs (not_lockout_of_unloaded hstart hl))

end Sys2Proof.Machine
end

section
namespace Sys2Proof.Machine

open Sys2Proof Sys2Proof.Config

/-! ## The interruption list stays in bounds (R102 to R104) -/

theorem interruptionsRight.listBounded {s : State} (h : interruptionsRight s) : listBounded s := by
  obtain ⟨hcount, hwindow, -⟩ := h
  exact ⟨hcount, hwindow⟩

theorem interruptionsRight.room {s : State} (h : interruptionsRight s) (hs : s.ctl.state ≠ .lockout) :
    s.ctl.list.length < 8 := by
  obtain ⟨-, -, -, hroom, -⟩ := h
  exact hroom hs

/-- What reads the counter, the two parameters, the list and whether the state is LOCKOUT. -/
theorem interruptionsRight.congr {s t : State} (h : interruptionsRight s) (hms : t.ms = s.ms)
    (hcount : t.param offLockoutCount = s.param offLockoutCount) (hwindow : t.param offWindow = s.param offWindow)
    (hl : t.ctl.list = s.ctl.list) (hs : t.ctl.state ≠ .lockout → s.ctl.state ≠ .lockout) :
    interruptionsRight t := by
  obtain ⟨hc, hw, hlen, hroom, hsorted, hage⟩ := h
  unfold interruptionsRight
  rw [hms, hcount, hwindow, hl]
  exact ⟨hc, hw, hlen, hroom ∘ hs, hsorted, hage⟩

/-- With the shadow as it was the parameters are. -/
theorem interruptionsRight.congr_shadow {s t : State} (h : interruptionsRight s) (hms : t.ms = s.ms)
    (hshadow : t.shadow = s.shadow) (hl : t.ctl.list = s.ctl.list)
    (hs : t.ctl.state ≠ .lockout → s.ctl.state ≠ .lockout) : interruptionsRight t :=
  h.congr hms (param_congr hshadow _) (param_congr hshadow _) hl hs

/-- An empty list is in bounds. -/
theorem interruptionsRight_of_nil {s : State} (h : listBounded s) (hl : s.ctl.list = []) :
    interruptionsRight s := by
  obtain ⟨hcount, hwindow⟩ := h
  unfold interruptionsRight
  rw [hl]
  exact ⟨hcount, hwindow, Nat.zero_le _, fun _ => by decide, .nil, nofun⟩

/-- Entries that leave the list leave it in bounds. -/
theorem interruptionsRight.sublist {s t : State} (h : interruptionsRight s) (hms : t.ms = s.ms)
    (hb : Machine.listBounded t) (hl : t.ctl.list.Sublist s.ctl.list) (hs : t.ctl.state = s.ctl.state)
    (hage : ∀ e ∈ t.ctl.list, age s.ms e ≤ t.param offWindow * 1000) : interruptionsRight t := by
  obtain ⟨-, -, hlen, hroom, hsorted, -⟩ := h
  obtain ⟨hcount, hwindow⟩ := hb
  refine ⟨hcount, hwindow, hl.length_le.trans hlen, fun hne => ?_, ?_, ?_⟩
  · exact hl.length_le.trans_lt (hroom (hs ▸ hne))
  · rw [hms]; exact hsorted.sublist (hl.map _)
  · rw [hms]; exact hage

theorem age_now (now : Time) (o : Origin) (forward : Int) : age now ⟨now, o, forward⟩ = 0 := by
  simp [age]

/-- R102, R104: an interruption is added at the end, outside LOCKOUT, where there is room for it. -/
theorem interruptionsRight.add {s t : State} (h : interruptionsRight s) (hms : t.ms = s.ms)
    (hshadow : t.shadow = s.shadow) (hs : s.ctl.state ≠ .lockout) {o : Origin} {forward : Int}
    (hl : t.ctl.list = s.ctl.list ++ [⟨s.ms, o, forward⟩])
    (hcount : t.ctl.state ≠ .lockout → t.ctl.list.length < s.param offLockoutCount) : interruptionsRight t := by
  have hroom := h.room hs
  obtain ⟨hc, hw, -, -, hsorted, hage⟩ := h
  have hlen : t.ctl.list.length = s.ctl.list.length + 1 := by rw [hl]; simp
  unfold interruptionsRight
  rw [param_congr hshadow, param_congr hshadow, hms]
  refine ⟨hc, hw, by omega, fun hne => (hcount hne).trans_le hc, ?_, ?_⟩
  · rw [hl, List.map_append, List.pairwise_append]
    refine ⟨hsorted, List.pairwise_singleton _ _, fun a _ b hb => ?_⟩
    rw [List.map_singleton, List.mem_singleton, age_now] at hb
    omega
  · rw [hl]
    intro e he
    rcases List.mem_append.mp he with he | he
    · exact hage e he
    · rw [List.mem_singleton] at he
      subst he
      rw [age_now]
      exact Nat.zero_le _

theorem Turn.interruptionsRight {s t : State} (h : Turn s t) (hs : interruptionsRight s) : interruptionsRight t := by
  cases h with
  | keeps hb hst _ hl => exact hs.congr_shadow hb.ms hb.shadow hl (hst ▸ id)
  | mutes hb hne _ _ hl => exact hs.congr_shadow hb.ms hb.shadow hl fun _ => hne
  | interrupts hb hrun _ _ o forward hl hcount =>
    exact hs.add hb.ms hb.shadow (ne_lockout_of_running hrun) hl hcount

/-! ### The lists and the records together -/

/-- The interruption list and the records are in bounds. -/
def listsRight (s : State) : Prop := interruptionsRight s ∧ recordsRight s

theorem recordsRight.congr {s t : State} (h : recordsRight s) (hshadow : t.shadow = s.shadow) (hp : t.pub = s.pub) :
    recordsRight t := by
  unfold recordsRight at h ⊢
  rw [hp, word_congr hshadow]
  exact h

theorem Turn.behind {s t : State} (h : Turn s t) : Behind s t := by
  cases h <;> assumption

theorem Turns.listsRight {s t : State} (h : Turns s t) (hs : listsRight s) : listsRight t := by
  induction h with
  | refl => exact hs
  | tail _ hturn ih =>
    exact ⟨hturn.interruptionsRight ih.1, ih.2.congr hturn.behind.shadow hturn.behind.pub⟩

theorem leads.listsRight {s t : State} (h : leads s t) (hs : listsRight s) : listsRight t := by
  rcases h with h | h
  · exact h.listsRight hs
  · exact ⟨hs.1.congr_shadow h.ms h.shadow h.list fun _ => h.unlocked, hs.2.congr h.shadow h.pub⟩

theorem conclude_listsRight {s : State} {e : Ev} (h : listsRight e.st) : listsRight (conclude s e) :=
  ⟨h.1.congr_shadow (by simp) (by simp) (by simp) (by simp), conclude_recordsRight h.2⟩

/-! ### Host words -/

/-- The system parameters stand from the third offset on (R147). -/
theorem configTarget_param {n off : Nat} (h : configTarget n = .param off) : 3 ≤ off := by
  unfold configTarget at h
  split at h
  · cases h
  next hcommand =>
  split at h
  · cases h
  next hconsumed =>
  split at h
  · cases h
  next hreference =>
  split at h
  · obtain rfl := Target.param.inj h
    unfold offCommand at hcommand
    unfold offConsumed at hconsumed
    unfold offReference at hreference
    omega
  · exfalso
    revert h
    repeat' split
    all_goals nofun

theorem target_param {s : State} {a : Word} {off : Nat} (h : s.target a = .param off) : 3 ≤ off := by
  unfold State.target at h
  split at h
  · split at h
    · cases h
    · exact configTarget_param h
  · split at h
    · cases h
    · split at h <;> cases h

/-- A configuration word other than the consumed index and the interruption window is stored elsewhere. -/
theorem Target.offset_elsewhere {s : State} {a : Word} {off : Nat} (ho : (s.target a).offset = some off)
    (ht : s.target a ≠ .consumed ∧ s.target a ≠ .param offWindow) :
    2 ≤ off ∧ off ≠ offWindow ∧ (off = offLockoutCount → s.target a = .param offLockoutCount) := by
  cases h : s.target a <;> rw [h] at ho <;>
    simp only [Target.offset, Option.some.injEq, reduceCtorEq] at ho <;> subst ho
  case consumed => exact absurd h ht.1
  case param off =>
    have hlow := target_param h
    exact ⟨by omega, fun hw => ht.2 (hw ▸ h), fun hc => by rw [hc]⟩
  all_goals
    simp only [offReference, offWindow, offLockoutCount, offLevelMask, offLevelAddr, offGuardMask, offGuardA, offGuardB,
      offGuardC, offSource, offChannel]
    omega

end Sys2Proof.Machine
end

section
namespace Sys2Proof.Machine

open Sys2Proof Sys2Proof.Config

/-! ### What a handoff leaves of the lists -/

/-- A stored word other than the consumed index and the interruption window. -/
theorem store_listsRight {s : State} (h : listsRight s) {a w : Word} {off : Nat} {v : Word}
    (ht : s.target a ≠ .consumed ∧ s.target a ≠ .param offWindow) (ho : (s.target a).offset = some off)
    (hv : s.judge (s.target a) w = .taken v) : listsRight (s.store off v) := by
  obtain ⟨hlow, hne, hcount⟩ := Target.offset_elsewhere ho ht
  obtain ⟨hints, hrecords⟩ := h
  have hwindow : (s.store off v).param offWindow = s.param offWindow :=
    congrArg BitVec.toNat (word_store_of_ne v (by unfold offWindow at hne ⊢; omega))
  have hconsumed : (s.store off v).word offConsumed = s.word offConsumed :=
    word_store_of_ne v (by unfold offConsumed; omega)
  have hb : listBounded (s.store off v) := by
    refine listBounded_store hints.listBounded (fun hc => ?_) fun hw => absurd hw hne
    rw [hcount hc] at hv
    exact judgeParam_lockoutCount hv
  refine ⟨hints.sublist rfl hb (List.Sublist.refl _) rfl ?_, ?_⟩
  · obtain ⟨-, -, -, -, -, hage⟩ := hints
    rw [hwindow]
    exact hage
  · rw [recordsRight_iff, hconsumed]
    exact hrecords

/-- R103: a new window, and the entries at or past it removed. -/
theorem windowed_listsRight {s : State} (h : listsRight s) {w v : Word}
    (hv : s.judge (.param offWindow) w = .taken v) : listsRight (trimInterruptions (s.store offWindow v)) := by
  obtain ⟨hints, hrecords⟩ := h
  have hb : listBounded (s.store offWindow v) :=
    listBounded_store hints.listBounded (absurd · (by decide)) fun _ => judgeParam_window hv
  refine ⟨hints.sublist rfl hb List.filter_sublist rfl fun e he => ?_, ?_⟩
  · have hyoung := (List.mem_filter.mp he).2
    simp only [aged, Bool.not_eq_true', decide_eq_false_iff_not, Nat.not_le] at hyoung
    exact hyoung.le
  · have hconsumed : (trimInterruptions (s.store offWindow v)).word offConsumed = s.word offConsumed :=
      word_store_of_ne (s := s) v (by decide)
    rw [recordsRight_iff, hconsumed]
    exact hrecords

/-- R153: a consumed index that is taken. -/
theorem consumed_listsRight {s : State} (h : listsRight s) {w : Word}
    (hw : consumedTaken (s.word offConsumed) w s.pub.writeIndex = true) :
    listsRight { s.store offConsumed w with pub := consumedWritten w s.pub } := by
  obtain ⟨hints, hrecords⟩ := h
  have hparam {k : Nat} (hk : 2 ≤ k) : (s.store offConsumed w).param k = s.param k :=
    congrArg BitVec.toNat (word_store_of_ne w (by unfold offConsumed; omega))
  refine ⟨hints.congr rfl (hparam (by decide)) (hparam (by decide)) rfl id, ?_⟩
  have hstored : (s.store offConsumed w).word offConsumed = w := (wordStored_store w (by decide) (by decide)).1
  show pubRight ((s.store offConsumed w).word offConsumed) (consumedWritten w s.pub)
  rw [hstored]
  exact consumedWritten_recordsRight hrecords hw

/-- R118: RELEASE empties the list. -/
theorem takeRelease_listsRight {s : State} (h : listsRight s) : listsRight (takeRelease (Ev.of s)).st := by
  obtain ⟨hints, hrecords⟩ := h
  unfold takeRelease
  split
  · exact ⟨interruptionsRight_of_nil hints.listBounded rfl, hrecords⟩
  · exact ⟨hints, hrecords⟩

theorem treat_listsRight {s : State} (h : listsRight s) (a w : Word) :
    listsRight (treat s (s.target a) w).1.st := by
  have hx := treat_treated s (s.target a) w
  generalize (treat s (s.target a) w).1.st = x at hx ⊢
  cases hx with
  | leads hx => exact hx.listsRight h
  | released _ _ => exact takeRelease_listsRight h
  | stored ht ho hv hx => exact hx.listsRight (store_listsRight h ht ho hv)
  | windowed hv hx => exact hx.turns.listsRight (windowed_listsRight h hv)
  | consumed hw hx => exact hx.turns.listsRight (consumed_listsRight h hw)

/-! ### The table load -/

/-- Load completion moves of the publication unit its write index and its timer alone (R158). -/
theorem started_pub (s : State) : (started s).pub =
    { s.pub with writeIndex := (started s).pub.writeIndex, timer := (started s).pub.timer } := by
  have hbefore : (startArc (startImage (prestarted s))).pub = s.pub := by
    rw [startArc_only (startImage (prestarted s)), startImage_only (prestarted s)]; rfl
  rw [← hbefore]
  rfl

/-- Until load completion the list and the records are in their reset state (R98, R158). -/
theorem loads_listsRight {s : State} {e : Ev} (hstart : startsAtLoad s) (hl : s.loaded = false) (h : listsRight s)
    (he : LoadMoves s e) : listsRight e.st := by
  obtain ⟨-, -, -, -, -, -, -, hctl, -, hpub, -⟩ := hstart.2 hl
  have hlist : s.ctl.list = [] := by rw [hctl]; rfl
  have hnone : s.pub.current = none := by rw [hpub]; rfl
  obtain ⟨hints, hfifo, hlost, -⟩ := h
  cases he with
  | on he =>
    have hx := he.on
    refine ⟨interruptionsRight_of_nil (he.bounded hints.listBounded) (by rw [hx]; exact hlist), ?_, ?_, ?_⟩
    · rw [hx]; exact hfifo
    · rw [hx]; exact hlost
    · rw [hx]; exact fun hc => absurd hnone hc
  | @completes e he =>
    have hx := he.on
    have hpub' : (loadComplete e).st.pub = _ := started_pub e.st
    have hshadow : (loadComplete e).st.shadow = e.st.shadow := by
      rw [loadComplete_st, started_only e.st]; rfl
    have hlist' : (loadComplete e).st.ctl.list = e.st.ctl.list := by
      rw [loadComplete_st, started_only e.st]; rfl
    have hb : listBounded (loadComplete e).st := by
      unfold listBounded
      rw [param_congr hshadow, param_congr hshadow]
      exact he.bounded hints.listBounded
    refine ⟨interruptionsRight_of_nil hb (by rw [hlist', hx]; exact hlist), ?_, ?_, ?_⟩
    · rw [hpub', hx]; exact hfifo
    · rw [hpub', hx]; exact hlost
    · rw [hpub', hx]; exact fun hc => absurd hnone hc

/-! ### Every step -/

/-- R55: a ramp expiry leads from RESTART alone, and to RUN. -/
theorem ramped_listsRight {s : State} (h : listsRight s) : listsRight (ramped s).st := by
  obtain ⟨hints, hrecords⟩ := h
  by_cases hrun : s.ctl.state = .restart ∧ (rampStep s).ceil.eSys = s.ceil.cRaw
  · have hst : ramped s = _ := ceilingReached_runs (e := (Ev.of s).upd rampStep) hrun.1 hrun.2
    rw [hst]
    refine ⟨hints.congr_shadow rfl rfl rfl fun _ => ?_, hrecords⟩
    rw [hrun.1]
    decide
  · have hst : ramped s = _ := ceilingReached_keeps (e := (Ev.of s).upd rampStep) hrun
    rw [hst]
    exact ⟨hints, hrecords⟩

/-- R103: the oldest entry leaves. -/
theorem removed_listsRight {s : State} (h : listsRight s) :
    listsRight { s with ctl := { s.ctl with list := s.ctl.list.tail } } := by
  obtain ⟨hints, hrecords⟩ := h
  refine ⟨hints.sublist rfl hints.listBounded (List.tail_sublist _) rfl fun e he => ?_, hrecords⟩
  obtain ⟨-, -, -, -, -, hage⟩ := hints
  exact hage e (List.mem_of_mem_tail he)

theorem listsRight_reset (k : ResetKind) (arc : Arc) (pending : List Instr) :
    listsRight { State.reset with resetKind := k, arc := arc, pending := pending } := by
  have hb : listBounded State.reset := by
    simp [listBounded, State.param, word_of_zeros (u := State.reset) rfl]
  exact ⟨interruptionsRight_of_nil hb rfl, Nat.zero_le _, Nat.zero_le _, fun hc => absurd rfl hc⟩

theorem brings_listsRight {c : Instr} {s t : State} (hstart : startsAtLoad s) (h : listsRight s)
    (hb : Brings s c t) : listsRight t := by
  cases hb with
  | aside ht _ => exact ht.turns.listsRight h
  | event he => exact conclude_listsRight (he.listsRight h)
  | removed _ => exact removed_listsRight h
  | reset k => exact listsRight_reset k _ _
  | @handed _ a w hw _ =>
    exact conclude_listsRight ((dispose_offstage a w _ _).turns.listsRight (treat_listsRight h a w))
  | published he hp =>
    refine conclude_listsRight ⟨?_, hp h.2⟩
    exact h.1.congr_shadow (by rw [he]) (by rw [he]) (by rw [he]) (by rw [he]; exact id)
  | ramped _ => exact conclude_listsRight (ramped_listsRight h)
  | loads hl he => exact conclude_listsRight (loads_listsRight hstart hl h he)

/-- Every event that is concluded leaves the arbiter with nothing to grant (R133). -/
theorem brings_settled {c : Instr} {s t : State} (h : settled s) (hb : Brings s c t) : settled t := by
  cases hb with
  | aside _ hs => exact hs h
  | removed _ => exact h.congr rfl rfl rfl rfl id
  | reset k => exact settle_of_held rfl
  | event | handed | published | ramped | loads => exact conclude_settled _ _

/-! ### The passage of time -/

/-- A millisecond ages an entry by one, short of the counter's wrap. -/
theorem age_tick {now : Time} {e : Interruption} (h : age now e ≤ 600000) : age (now + 1) e = age now e + 1 := by
  unfold age at h ⊢
  rw [show now + 1 - e.time = now - e.time + 1 by ring, BitVec.toNat_add]
  exact Nat.mod_eq_of_lt (show _ + 1 < 2 ^ 32 by omega)

/-- R103: while the oldest entry's age has not reached the window, a millisecond takes no entry past it. -/
theorem tick_interruptionsRight {s : State} (h : interruptionsRight s) (hd : s.removalDue = false) :
    interruptionsRight (tick s) := by
  unfold tick
  split
  · exact h
  next hr =>
    obtain ⟨hcount, hwindow, hlen, hroom, hsorted, hage⟩ := h
    have htick : ∀ e ∈ s.ctl.list, age (s.ms + 1) e = age s.ms e + 1 := fun e he =>
      age_tick ((hage e he).trans (by omega))
    have hyoung : ∀ e ∈ s.ctl.list, age s.ms e < s.param offWindow * 1000 := by
      cases hl : s.ctl.list with
      | nil => nofun
      | cons first rest =>
        have hfirst : age s.ms first < s.param offWindow * 1000 := by
          simpa [State.removalDue, hr, hl, aged] using hd
        rw [hl, List.map_cons, List.pairwise_cons] at hsorted
        intro e he
        rcases List.mem_cons.mp he with rfl | he
        · exact hfirst
        · exact (hsorted.1 _ (List.mem_map_of_mem he)).trans_lt hfirst
    refine ⟨hcount, hwindow, hlen, hroom, ?_, fun e he => ?_⟩
    · show (s.ctl.list.map (age (s.ms + 1))).Pairwise _
      rw [List.pairwise_map] at hsorted ⊢
      refine hsorted.imp_of_mem fun ha hb hle => ?_
      rw [htick _ ha, htick _ hb]
      exact Nat.succ_le_succ hle
    · show age (s.ms + 1) e ≤ s.param offWindow * 1000
      rw [htick e he]
      exact hyoung e he

theorem idle_listsRight {s : State} (h : listsRight s) : listsRight (idle s) := by
  unfold idle
  split
  · exact removed_listsRight h
  next hd =>
    have hkept : recordsRight (tick s) := by unfold tick; split <;> exact h.2
    exact ⟨tick_interruptionsRight h.1 (Bool.not_eq_true _ ▸ hd), hkept⟩

theorem idle_settled {s : State} (h : settled s) : settled (idle s) := by
  unfold idle tick
  split
  · exact h.congr rfl rfl rfl rfl id
  · split
    · exact h
    · exact h.congr rfl rfl rfl rfl id

/-- Settles O57: by the kinds of a command's outcome, and by the ages where time passes. -/
theorem listsAndRecordsInvariant : Obligations.ListsAndRecordsInvariant := by
  rintro s t ⟨-, hstart⟩ ⟨hints, hrecords, hsettled⟩ hstep
  suffices hkept : listsRight t ∧ settled t from ⟨hkept.1.1, hkept.1.2, hkept.2⟩
  unfold step at hstep
  split at hstep
  next =>
    cases hstep
    exact ⟨idle_listsRight ⟨hints, hrecords⟩, idle_settled hsettled⟩
  next c rest _ =>
    have hbrings := exec_brings hstep
    have hfront : settled { s with pending := rest } := hsettled.congr rfl rfl rfl rfl id
    exact ⟨brings_listsRight (s := { s with pending := rest }) hstart ⟨hints, hrecords⟩ hbrings,
      brings_settled hfront hbrings⟩

end Sys2Proof.Machine
end

section
namespace Sys2Proof.Machine

open Sys2Proof Sys2Proof.Config

/-! ## The commands RESUME, STANDBY and RELEASE (R115 to R118) -/

/-- What the handoff of a command word leaves, `x` being the event of its command. -/
def commandLeaves (s : State) (a w : Word) (x : Ev) : State := concluded s (x.upd (commandPosted a w))

theorem handoff_commandLeaves {kind : State → Word → Word → Bool} {s : State} {a w : Word}
    (hw : s.handoffWord = some (a, w)) (ht : s.target a = .command) (hk : kind s a w = true) :
    handoffOf kind s = .next (commandLeaves s a w (takeCommand w (Ev.of s))) := by
  have htreat : treat s (s.target a) w = (takeCommand w (Ev.of s), .forward w .hostWrite) := by rw [ht]; rfl
  rw [handoff_forward hw hk htreat]
  rfl

/-- What every command's handoff leaves: the word forwarded, the drive image following, the other blocks as
they were. -/
theorem commandLeaves_frame {s : State} (a w : Word) {x : Ev} (h : steered s x.st) :
    forwarded s (commandLeaves s a w x) a w w .hostWrite ∧ imageFollows s (commandLeaves s a w x) ∧
      changesOnly [.ctl, .ceil, .image, .arc, .port, .link, .pub] s (commandLeaves s a w x) := by
  have hst : x.st = { s with ceil := x.st.ceil, arc := x.st.arc, ctl := x.st.ctl } := h
  refine ⟨?_, imageFollows_concluded ?_, ?_, fun b hb => ?_⟩
  · have hport : x.st.port = s.port := (congrArg State.port hst :)
    have hlink : x.st.link = s.link := (congrArg State.link hst :)
    exact forwarded_of (by simp [commandLeaves, concluded, commandPosted, hport])
      (by simp [commandLeaves, concluded, commandPosted, hlink])
  · exact (congrArg State.image hst :)
  · have hpending : x.st.pending = s.pending := (congrArg State.pending hst :)
    simp [commandLeaves, concluded, commandPosted, hpending]
  · simp only [commandLeaves, concluded, Ev.upd_st]
    rw [hst]
    cases b <;> simp at hb <;> simp [sameBlock, commandPosted]

section CommandLeaves
variable (s : State) (a w : Word) (x : Ev)

@[simp] theorem commandLeaves_ctl : (commandLeaves s a w x).ctl = x.st.ctl :=
  concluded_ctl ..
@[simp] theorem commandLeaves_ceil : (commandLeaves s a w x).ceil = x.st.ceil :=
  concluded_ceil ..
@[simp] theorem commandLeaves_arc : (commandLeaves s a w x).arc = x.st.arc :=
  concluded_arc ..

/-- A command without a record leaves the publication unit alone. -/
theorem commandLeaves_pub {x : Ev} (h : x.out = []) : (commandLeaves s a w x).pub = x.st.pub := by
  simp [commandLeaves, concluded, h, commandPosted]

/-- Its records are submitted. -/
theorem commandLeaves_submitted {s : State} {x : Ev} (h : x.st.pub = s.pub) :
    submitted x.out s (commandLeaves s a w x) :=
  submitted_concluded h rfl

end CommandLeaves

/-- What becomes of command `code` with the result and the new state of `fate` in the state `t` it leaves, in
the statement's terms. -/
def commandOutcome (s : State) (code : Nat) (fate : CmdResult × Option CtlState) (t : State) : Prop :=
  let noted : Controller := { s.ctl with lastCode := some code, lastResult := fate.1 }
  let leaves := s.ctl.state = .restart ∨ s.ctl.state = .run
  (fate.2 = none → t.ctl = noted ∧ t.ceil = s.ceil ∧ t.arc = s.arc ∧ t.pub = s.pub) ∧
  (∀ dst, fate.2 = some dst →
    t.ctl = { noted with
      state := dst
      inhibit := decide (dst ≠ .restart)
      list := if code = 3 then [] else s.ctl.list
      blank := if code = 2 ∧ s.ctl.state = .blank then none else s.ctl.blank
      hold := if code = 2 ∧ s.ctl.state = .tripped then none else s.ctl.hold } ∧
    t.ceil = { s.ceil with
      eSys := if dst = .restart then min (s.param offRestart) s.ceil.cRaw
        else if leaves then 0 else s.ceil.eSys } ∧
    t.arc = { s.arc with settle := if leaves then some 50 else s.arc.settle } ∧
    submitted [⟨.state, s.ctl.state.code, dst.code, word (20 + code)⟩] s t)

/-- A command that moves nothing is kept with its result (R115). -/
theorem commandOutcome_noted (s : State) (a w : Word) (code : Nat) (r : CmdResult) :
    commandOutcome s code (r, none) (commandLeaves s a w ((Ev.of s).upd (setCommand code r))) := by
  refine ⟨fun _ => ⟨?_, ?_, ?_, ?_⟩, fun dst hd => ?_⟩
  · rw [commandLeaves_ctl]; rfl
  · rw [commandLeaves_ceil]; rfl
  · rw [commandLeaves_arc]; rfl
  · rw [commandLeaves_pub _ _ _ rfl]; rfl
  · cases hd

/-- The controller as a taken command `code` leaves it before its transition: the command kept, and what it
clears cleared (R115, R117, R118). -/
def commandTaken (code : Nat) (s : State) : State :=
  { s with ctl := { s.ctl with
      lastCode := some code
      lastResult := .taken
      list := if code = 3 then [] else s.ctl.list
      blank := if code = 2 ∧ s.ctl.state = .blank then none else s.ctl.blank
      hold := if code = 2 ∧ s.ctl.state = .tripped then none else s.ctl.hold } }

/-- A taken command that is a transition into RESTART from a muted state, or into a muted state. -/
theorem commandOutcome_moved {s : State} (a w : Word) {code : Nat} {dst : CtlState} {c : StateCause}
    (hdst : dst = .restart ∧ s.ctl.state.running = false ∨ dst.running = false)
    (hc : c.code = word (20 + code)) :
    commandOutcome s code (.taken, some dst)
      (commandLeaves s a w (transition dst c ((Ev.of s).upd (commandTaken code)))) := by
  have hleaving : (s.ctl.state.running && !dst.running) = true ↔ s.ctl.state = .restart ∨ s.ctl.state = .run := by
    rcases hdst with ⟨rfl, hs⟩ | hdst
    · simp [CtlState.running, running_eq_false_iff.mp hs]
    · rw [hdst]
      cases s.ctl.state <;> simp [CtlState.running]
  have hinhibit : (!dst.running) = decide (dst ≠ .restart) := by
    rcases hdst with ⟨rfl, -⟩ | hdst
    · rfl
    · rw [hdst, decide_eq_true (by rintro rfl; cases hdst)]; rfl
  refine ⟨nofun, fun d hd => ?_⟩
  obtain rfl : dst = d := Option.some.inj hd
  rw [← hc]
  refine ⟨?_, ?_, ?_, ?_⟩
  · rw [commandLeaves_ctl, ← hinhibit]; rfl
  · rw [commandLeaves_ceil, ← if_congr hleaving rfl rfl]; rfl
  · rw [commandLeaves_arc, ← if_congr hleaving rfl rfl]; rfl
  · exact commandLeaves_submitted a w (x := transition dst c ((Ev.of s).upd (commandTaken code))) rfl

/-! ### Each command by its table -/

section Tables
variable {s : State}

/-- R116: RESUME leaves STANDBY unless a proof is in progress. -/
theorem takeResume_moves (hst : s.ctl.state = .standby) (hp : s.arc.proof = none) :
    takeResume (Ev.of s) = transition (if s.ctl.causes.isEmpty = true then .restart else .tripped) .commandResume
      ((Ev.of s).upd (commandTaken 1)) := by
  have hr : resumeResult s = .taken := by simp [resumeResult, hst, hp]
  unfold takeResume
  simp only [Ev.of_st, hr]
  rw [if_pos ⟨hst, trivial⟩]
  rfl

/-- R116: elsewhere, and while a proof is in progress, it is only noted. -/
theorem takeResume_noted (h : s.ctl.state ≠ .standby ∨ s.arc.proof ≠ none) :
    takeResume (Ev.of s) = (Ev.of s).upd (setCommand 1 (resumeResult s)) := by
  unfold takeResume
  refine if_neg fun ⟨hst, hr⟩ => ?_
  have hst' : s.ctl.state = .standby := hst
  have hp := h.resolve_left (not_not.mpr hst')
  simp [resumeResult, hst', Option.isSome_iff_ne_none.mpr hp] at hr

/-- R117: STANDBY leads there from RESTART, RUN, BLANK and TRIPPED. -/
theorem takeStandby_moves (h : s.ctl.state = .restart ∨ s.ctl.state = .run ∨ s.ctl.state = .blank ∨
    s.ctl.state = .tripped) :
    takeStandby (Ev.of s) = transition .standby .commandStandby ((Ev.of s).upd (commandTaken 2)) := by
  rcases h with h | h | h | h <;>
    simp [takeStandby, h, commandTaken, setCommand, setBlank, setHold, Ev.upd, Ev.of]

/-- R117: elsewhere it is only noted, as taken in STANDBY. -/
theorem takeStandby_noted (h : ¬(s.ctl.state = .restart ∨ s.ctl.state = .run ∨ s.ctl.state = .blank ∨
    s.ctl.state = .tripped)) :
    takeStandby (Ev.of s) =
      (Ev.of s).upd (setCommand 2 (if s.ctl.state = .standby then .taken else .refusedState)) := by
  unfold takeStandby
  cases hst : s.ctl.state <;> simp [hst] at h ⊢

/-- R118: RELEASE leaves LOCKOUT with the list emptied. -/
theorem takeRelease_moves (h : s.ctl.state = .lockout) :
    takeRelease (Ev.of s) = transition .standby .commandRelease ((Ev.of s).upd (commandTaken 3)) :=
  if_pos h

theorem takeRelease_noted (h : s.ctl.state ≠ .lockout) :
    takeRelease (Ev.of s) = (Ev.of s).upd (setCommand 3 .refusedState) :=
  if_neg h

end Tables

section TakeCommand
variable {w : Word} (e : Ev)

theorem takeCommand_resume (h : cmdCode w = 1) : takeCommand w e = takeResume e := by
  unfold takeCommand
  rw [h]
  rfl

theorem takeCommand_standby (h : cmdCode w = 2) : takeCommand w e = takeStandby e := by
  unfold takeCommand
  rw [h]
  rfl

end TakeCommand

/-- Settles O34: each command moves the controller by its table, or is only noted. -/
theorem resumeStandbyAndRelease : Obligations.ResumeStandbyAndRelease := by
  intro c s a w code hw ht hcode hrow fate noted leaves
  have hexec : exec c s = .next (commandLeaves s a w (takeCommand w (Ev.of s))) := by
    rcases hrow with ⟨rfl, rfl⟩ | ⟨rfl, rfl⟩ | ⟨rfl, rfl⟩ <;>
      exact handoff_commandLeaves hw ht (isCommand_of ht hcode.ge hcode.le)
  obtain ⟨hforward, himage, hframe⟩ := commandLeaves_frame a w (takeCommand_steered w (Ev.of s))
  suffices hout : commandOutcome s code fate (commandLeaves s a w (takeCommand w (Ev.of s))) from
    ⟨_, hexec, hforward, hout.1, hout.2, himage, hframe⟩
  rcases hrow with ⟨-, rfl⟩ | ⟨-, rfl⟩ | ⟨-, rfl⟩
  case inl =>
    rw [takeCommand_resume _ hcode]
    by_cases h : s.ctl.state = .standby ∧ s.arc.proof = none
    · obtain ⟨hst, hp⟩ := h
      have hfate : fate = (.taken, some (if s.ctl.causes.isEmpty = true then .restart else .tripped)) := by
        simp [fate, hst, hp]
      rw [takeResume_moves hst hp, hfate]
      refine commandOutcome_moved a w ?_ rfl
      split
      · exact .inl ⟨rfl, by rw [hst]; rfl⟩
      · exact .inr rfl
    · rw [not_and_or] at h
      have hfate : fate = (resumeResult s, none) := by
        cases hst : s.ctl.state
        case standby =>
          have hp := h.resolve_left (not_not.mpr hst)
          simp [fate, resumeResult, hst, hp, Option.isSome_iff_ne_none]
        all_goals simp [fate, resumeResult, hst]
      rw [takeResume_noted h, hfate]
      exact commandOutcome_noted s a w 1 _
  case inr.inl =>
    rw [takeCommand_standby _ hcode]
    by_cases h : s.ctl.state = .restart ∨ s.ctl.state = .run ∨ s.ctl.state = .blank ∨ s.ctl.state = .tripped
    · have hfate : fate = (.taken, some .standby) := by
        rcases h with h | h | h | h <;> simp [fate, h]
      rw [takeStandby_moves h, hfate]
      exact commandOutcome_moved a w (.inr rfl) rfl
    · rw [takeStandby_noted h]
      have hfate : fate = (if s.ctl.state = .standby then .taken else .refusedState, none) := by
        cases hst : s.ctl.state <;> simp [hst] at h <;> simp [fate, hst]
      rw [hfate]
      exact commandOutcome_noted s a w 2 _
  case inr.inr =>
    rw [takeCommand_release hcode]
    by_cases h : s.ctl.state = .lockout
    · have hfate : fate = (.taken, some .standby) := by simp [fate, h]
      rw [takeRelease_moves h, hfate]
      exact commandOutcome_moved a w (.inr rfl) rfl
    · have hfate : fate = (.refusedState, none) := by
        cases hst : s.ctl.state
        case lockout => exact absurd hst h
        all_goals simp [fate, hst]
      rw [takeRelease_noted h, hfate]
      exact commandOutcome_noted s a w 3 _

end Sys2Proof.Machine
end

section
/-! # The passing path (chapters 7 and 8)

Events out of place, the arbiter's grants, the words of the link and the tests of a frame, the completions of
host accesses, the classification of a host word's address, and the words without a row of their own. -/

namespace Sys2Proof.Machine

open Sys2Proof Sys2Proof.Config

/-! ## Events out of place (R132, log entry 6) -/

/-- A command whose event cannot occur in the state it meets. -/
theorem whenever_not {p : Bool} {s : State} (t : State) (h : p = false) : whenever p s t = .next s := by
  rw [h, whenever_false]

/-- A guard that asks first that the reset input is not held. -/
theorem whenever_of_held {p : Bool} {s : State} (t : State) (h : s.resetHeld = true) :
    whenever (!s.resetHeld && p) s t = .next s :=
  whenever_not t (by simp [h])

/-- No access can complete: the reset input is held, or none is in flight. -/
def nothingCompletes (s : State) : Prop := s.resetHeld = true ∨ s.port.inFlight = none

theorem nothingCompletes.completing {s : State} (h : nothingCompletes s) (p : Purpose) :
    s.completing p = false := by
  rcases h with h | h <;> simp [State.completing, h]

/-- The port takes no access: the reset input is held, or an access is in flight. -/
theorem portIdle_eq_false {s : State} : s.portIdle = false ↔ s.resetHeld = true ∨ s.port.inFlight ≠ none := by
  simp [State.portIdle, Option.isSome_iff_ne_none, or_iff_not_imp_left]

/-- No host word is handed off at a port that takes no access. -/
theorem handoffWord_of_not_idle {s : State} (h : s.portIdle = false) : s.handoffWord = none := by
  simp [State.handoffWord, h]

/-- A row that is a handoff does nothing while no word is offered. -/
theorem handoffOf_none (kind : State → Word → Word → Bool) {s : State} (h : s.handoffWord = none) :
    handoffOf kind s = .next s := by
  rw [handoffOf, h]

/-- The rows of the table that are the handoff of a host word. -/
def handoffRows : List Instr :=
  [.hostLevelWord, .resume, .standby, .release, .proof, .commandNone, .unknownCommand,
    .writeWord, .consumedIndexWrite, .levelEnableMaskWrite, .levelAddressWrite, .guardWordAWrite,
    .guardBaseStepWrite, .sourceEnable, .sourceDisable, .sourceSettingChange, .surgeLevelWrite,
    .channelEnable, .channelDisable, .directionChange, .persistenceLower, .foldSettingWrite,
    .tripLevelWrite, .calibrationWrite, .presentMaskWrite, .mismatchParameterWrite, .limitCapWrite,
    .interruptionWindowWrite]

/-- WRITE_WORD takes the words without a row of their own. -/
theorem exec_writeWord (s : State) : exec .writeWord s = handoffOf (fun s a w => !hasOwnRow s a w) s := rfl

theorem exec_handoffRow_none {s : State} (h : s.handoffWord = none) :
    ∀ c ∈ handoffRows, exec c s = .next s := by
  simp only [handoffRows, List.forall_mem_cons]
  refine ⟨?_, ?_, ?_, ?_, ?_, ?_, ?_, ?writeWord, ?_, ?_, ?_, ?_, ?_, ?_, ?_, ?_, ?_, ?_, ?_, ?_, ?_, ?_, ?_,
    ?_, ?_, ?_, ?_, ?_, nofun⟩
  case writeWord => rw [exec_writeWord, handoffOf_none _ h]
  all_goals exact handoffOf_none _ h

/-- The completions of the port's accesses, `v` being the value a read brings. -/
def completions (v : Word) : List Instr :=
  [.tableLoadReadCompletion v, .writeBackCompletion, .captureReadCompletion v,
    .imageWriteCompletion, .hostLevelWriteCompletion, .hostReadCompletion v, .hostWriteCompletion,
    .stepPreReadCompletion v, .snapshotWordCompletion, .recordWordCompletion]

theorem exec_completion_not {s : State} (h : nothingCompletes s) (v : Word) :
    ∀ c ∈ completions v, exec c s = .next s := by
  have hnot (p : Purpose) (t : State) : whenever (s.completing p) s t = .next s :=
    whenever_not t (h.completing p)
  simp only [completions, List.forall_mem_cons, exec]
  refine ⟨?_, ?_, ?_, ?_, ?_, hnot .., whenever_not _ ?hostWrite, ?preRead, hnot .., hnot .., nofun⟩
  case hostWrite => rw [h.completing, h.completing]; rfl
  case preRead => unfold execStepPreReadCompletion; split <;> simp only [hnot]
  all_goals
    simp only [execTableLoadReadCompletion, execWriteBackCompletion, execCaptureReadCompletion,
      execImageWriteCompletion, execHostLevelWriteCompletion]
    rcases h with h | h
    · split <;> simp [State.loading, h]
    · rw [h]

/-- A port that takes no access grants none. -/
theorem exec_grants_of_not_idle {s : State} (h : s.portIdle = false) :
    settle s = s ∧ exec .captureReadGrant s = .next s ∧ exec .imageWriteGrant s = .next s ∧
      exec .publicationWriteGrant s = .next s := by
  refine ⟨by simp [settle, h], ?_, ?_, whenever_not _ (by simp [h])⟩
  · simp only [exec, execCaptureReadGrant, h, whenever_false]
    split <;> rfl
  · simp only [exec, execImageWriteGrant, h, Bool.false_and, whenever_false]
    repeat' split
    all_goals rfl

/-- While the reset input is held only RESET, its release and the two input pins act. -/
theorem exec_of_held {s : State} (h : s.resetHeld = true) {c : Instr} (hreset : ∀ k, c ≠ .reset k)
    (hrelease : ∀ b, c ≠ .resetRelease b) (hline : ∀ i high, c ≠ .pendingChange i high)
    (hsurge : ∀ r, c ≠ .surgeComparatorChange r) : exec c s = .next s := by
  have hidle : s.portIdle = false := portIdle_eq_false.mpr (.inl h)
  obtain ⟨-, hcapture, himage, hpublication⟩ := exec_grants_of_not_idle hidle
  have hheld {p : Bool} (t : State) : whenever (!s.resetHeld && p) s t = .next s := whenever_of_held t h
  cases c
  case reset k => exact absurd rfl (hreset k)
  case resetRelease b => exact absurd rfl (hrelease b)
  case pendingChange i high => exact absurd rfl (hline i high)
  case surgeComparatorChange r => exact absurd rfl (hsurge r)
  case tableLoadReadCompletion v | captureReadCompletion v | hostReadCompletion v | stepPreReadCompletion v =>
    exact exec_completion_not (.inl h) v _ (by simp [completions])
  case writeBackCompletion | imageWriteCompletion | hostLevelWriteCompletion | hostWriteCompletion |
      snapshotWordCompletion | recordWordCompletion =>
    exact exec_completion_not (.inl h) 0 _ (by simp [completions])
  case discardedWord => rfl
  case sampleArrival | flowPulse | interruptionEntryRemoval =>
    exact whenever_not _ (by simp [State.sampling, State.removalDue, h])
  case captureReadGrant => exact hcapture
  case imageWriteGrant => exact himage
  case publicationWriteGrant => exact hpublication
  case debouncedTransition i =>
    simp only [exec, execDebouncedTransition, hheld]
    split <;> rfl
  case proofTimerExpiry =>
    simp only [exec, execProofTimerExpiry, hheld]
    split <;> rfl
  case sweepCompletion =>
    simp only [exec, execSweepCompletion, h, Bool.not_true, whenever_false]
    split <;> rfl
  case flowGateExpiry | moduleRecoveryHoldExpiry | rampExpiry | muteSettleExpiry | blankExpiry |
      systemRecoveryHoldExpiry | linkHeader | frameWord | requestFrame | stallTimerExpiry | responseSent |
      sweepTimerExpiry | snapshotTimerExpiry =>
    exact whenever_not _ (by simp [h])
  all_goals exact exec_handoffRow_none (handoffWord_of_not_idle hidle) _ (by simp [handoffRows])

/-- The expiry of an idle timer changes nothing: every expiry asks that its timer runs. -/
theorem whenever_idle {p : Bool} {timer : Timer} {s : State} (t : State) (h : timer = none) :
    whenever (p && timer.isSome) s t = .next s :=
  whenever_not t (by simp [h])

/-- Settles O3: under a held reset by `exec_of_held`, and otherwise each guard by the part that fails. -/
theorem eventsOutOfPlaceChangeNothing : Obligations.EventsOutOfPlaceChangeNothing := by
  intro s
  refine ⟨fun h c => exec_of_held h, fun h b => whenever_not _ h, fun h v => exec_completion_not (.inr h) v,
    exec_handoffRow_none, fun a w h hrow => ?_, whenever_idle _, whenever_idle _, whenever_idle _, fun h => ?_,
    whenever_idle _, whenever_idle _, whenever_idle _, whenever_idle _, fun h => ?_, whenever_idle _,
    fun n => whenever_idle _, fun i h => ?_⟩
  · rw [exec_writeWord]
    simp only [handoffOf, h]
    exact whenever_not _ (by simp [hrow])
  · show execProofTimerExpiry s = _
    unfold execProofTimerExpiry
    rcases h with h | h
    · rw [h]
    · split
      · rfl
      · exact whenever_idle _ h
  · simp only [exec, execSweepCompletion, h]
  · simp only [exec, execDebouncedTransition, h]

end Sys2Proof.Machine
end

section
namespace Sys2Proof.Machine

open Sys2Proof Sys2Proof.Config

/-! ## The arbiter's grants (R132 to R134) -/

/-- An access begun at a port with no class 1 work. -/
theorem begin_of_empty {s : State} (h : s.port.class1 = []) (p : Purpose) (a : Word) (k : AccessKind) :
    s.begin p a k = { s with port := ⟨some ⟨p, a, k⟩, []⟩ } := by
  rw [← h]; rfl

/-- While class 1 or class 2 has work no host word is handed off. -/
theorem handoffWord_of_work {s : State} (h : s.port.class1 ≠ [] ∨ s.image.queue ≠ []) :
    s.handoffWord = none := by
  rcases h with h | h <;> simp [State.handoffWord, h]

/-- While a stepped word is under way no other host word is handed off (R141). -/
theorem handoffWord_of_stepped {s : State} {x : Stepped} (h : s.stepped = some x) : s.handoffWord = none := by
  simp [State.handoffWord, State.wordOffered, h]

/-- A READ's next word is offered. -/
theorem readOffered_iff {s : State} : s.readOffered = true ↔
    s.link.state = .serving ∧ s.link.isWrite = false ∧ s.link.index ≤ s.link.count := by
  simp [State.readOffered, and_assoc]

/-- IMAGE_WRITE_GRANT yields to class 1. -/
theorem exec_imageWriteGrant_yields {s : State} (h : s.port.class1 ≠ []) : exec .imageWriteGrant s = .next s := by
  simp only [exec, execImageWriteGrant, List.isEmpty_eq_false_iff.mpr h, Bool.and_false, whenever_false]
  repeat' split
  all_goals rfl

/-- PUBLICATION_WRITE_GRANT yields to every other class. -/
theorem exec_publicationWriteGrant_yields {s : State} (h : s.port.class1 ≠ [] ∨ s.image.queue ≠ [] ∨
    s.handoffWord ≠ none ∨ s.readOffered = true) : exec .publicationWriteGrant s = .next s := by
  refine whenever_not _ ?_
  rcases h with h | h | h | h
  · simp [h]
  · simp [h]
  · have hword : s.wordOffered = true := by
      by_contra hno
      exact h (by simp [State.handoffWord, hno])
    simp [State.hostWork, hword]
  · simp [State.hostWork, h]

section Idle
variable {s : State} (hidle : s.portIdle = true)
include hidle

theorem settle_tableRead {off : Nat} {rest : List Class1} (h : s.port.class1 = .tableRead off :: rest) :
    settle s = { s with port := ⟨some ⟨.tableRead off, s.tableAddr off, .read⟩, rest⟩ } := by
  simp only [settle, hidle, h, if_true]; rfl

theorem settle_writeBack {off : Nat} {v : Word} {rest : List Class1}
    (h : s.port.class1 = .writeBack off v :: rest) :
    settle s = { s with port := ⟨some ⟨.writeBack off, s.tableAddr off, .write v⟩, rest⟩ } := by
  simp only [settle, hidle, h, if_true]; rfl

theorem exec_captureReadGrant {i : Fin 9} {a : Word} {rest : List Class1}
    (h : s.port.class1 = .capture i a :: rest) :
    settle s = s ∧
      exec .captureReadGrant s = .next { s with port := ⟨some ⟨.capture i, a, .read⟩, rest⟩ } := by
  constructor
  · simp only [settle, hidle, h, if_true]
  · simp only [exec, execCaptureReadGrant, h, hidle, whenever_true]; rfl

/-- R71: the head entry leaves the queue and becomes its record's write in flight. -/
theorem exec_imageWriteGrant {w : ImageWrite} {rest : List ImageWrite} {r : LevelRec}
    (hc : s.port.class1 = []) (hq : s.image.queue = w :: rest) (hr : s.image.recs[w.entry] = some r) :
    settle s = s ∧ exec .imageWriteGrant s = .next { s with
      port := ⟨some ⟨.image w.entry, r.addr, .write (word w.value)⟩, []⟩
      image := { recs := s.image.recs.set w.entry (some { r with inFlight := .image w.value })
                 queue := rest } } := by
  constructor
  · simp [settle, hidle, hc, hq]
  · have himage : (takeHead w rest s).image =
        ⟨s.image.recs.set w.entry (some { r with inFlight := .image w.value }), rest⟩ :=
      congrArg (Image.mk · rest) (updRec_recs_of (im := { s.image with queue := rest }) hr _)
    have htake : takeHead w rest s = { s with image := (takeHead w rest s).image } := rfl
    rw [himage] at htake
    simp only [exec, execImageWriteGrant, hq, hr, hidle, hc, List.isEmpty_nil, Bool.and_true, whenever_true]
    rw [htake, begin_of_empty (by exact hc)]

/-- R141: the write of a stepped word is granted once its pre-read has completed. -/
theorem settle_stepped {x : Stepped} (hc : s.port.class1 = []) (hq : s.image.queue = [])
    (hs : s.stepped = some x) : settle s = if x.preRead = none then s
      else { s with port := ⟨some ⟨.stepWrite, x.addr, .write x.forward⟩, []⟩ } := by
  simp only [settle, hidle, hc, hq, hs, if_true, begin_of_empty hc]
  cases x.preRead <;> rfl

/-- R127: a READ's next word. -/
theorem settle_read (hc : s.port.class1 = []) (hq : s.image.queue = []) (hs : s.stepped = none)
    (hr : s.readOffered = true) : settle s = { s with
      link := { s.link with index := s.link.index + 1 }
      port := ⟨some ⟨.hostRead, s.link.addr + word (s.link.index - 1), .read⟩, []⟩ } := by
  simp only [settle, hidle, hc, hq, hs, hr, if_true]
  rw [begin_of_empty (by exact hc)]
  rfl

end Idle

/-- Settles O39: each clause by the grant of its class. -/
theorem grantsFollowTheClasses : Obligations.GrantsFollowTheClasses := by
  intro s granted
  refine ⟨fun h => exec_grants_of_not_idle (portIdle_eq_false.mpr h), fun hheld hfree => ?_⟩
  have hidle : s.portIdle = true := by simp [State.portIdle, hheld, hfree]
  exact ⟨fun off rest => settle_tableRead hidle, fun off v rest => settle_writeBack hidle,
    fun i a rest => exec_captureReadGrant hidle, exec_imageWriteGrant_yields,
    fun w rest r => exec_imageWriteGrant hidle, handoffWord_of_work,
    fun x hc hq hs => ⟨handoffWord_of_stepped hs, settle_stepped hidle hc hq hs⟩,
    fun hc hq hs hserving hread hleft =>
      settle_read hidle hc hq hs (readOffered_iff.mpr ⟨hserving, hread, hleft⟩),
    exec_publicationWriteGrant_yields⟩

end Sys2Proof.Machine
end

section
namespace Sys2Proof.Machine

open Sys2Proof Sys2Proof.Config

/-! ## The words of the link (R123 to R125, R131, R135) -/

/-- What an event of the link alone leaves before the arbiter's grants, `l` being the link and `ds` its
records. -/
def linkLeaves (l : Link) (ds : List Draft) (s : State) : State := concluded s ⟨{ s with link := l }, ds⟩

theorem linkLeaves_spec (l : Link) (ds : List Draft) (s : State) :
    (linkLeaves l ds s).link = l ∧ submitted ds s (linkLeaves l ds s) ∧
      changesOnly [.link, .pub] s (linkLeaves l ds s) := by
  have himage : imageReact s.ceil { s with link := l } = { s with link := l } := imageReact_of_ceil rfl
  have heq : linkLeaves l ds s = submitAll ds { s with link := l } := congrArg (submitAll ds) himage
  refine ⟨by simp [heq], submitted_concluded rfl rfl, by simp [heq], fun b hb => ?_⟩
  rw [heq]
  cases b <;> simp at hb <;> simp [sameBlock]

/-- R135: the records of a request abandoned or refused, none in START. -/
def linkDrafts (subject : Word) (s : State) : List Draft :=
  if s.ctl.state = .start then [] else [⟨.link, subject, s.link.addr, word s.link.count⟩]

/-- An event of the link that reports the request it met. -/
theorem reportLink_eq {s : State} (k : LinkSubject) (l : Link) :
    reportLink k s.link ⟨{ s with link := l }, []⟩ = ⟨{ s with link := l }, linkDrafts k.code s⟩ := by
  unfold reportLink linkDrafts
  split <;> rfl

/-- Settles O36: each word under its guard, and the stall by `linkLeaves_spec`. -/
theorem linkWordsBuildARequest : Obligations.LinkWordsBuildARequest := by
  intro s w mark
  refine ⟨rfl, fun hr => ⟨fun hst => ?_, fun hst hpos => ?_, fun hst => ?_, fun hst hstall => ?_⟩⟩
  · exact whenever_of (by simp [hr, hst])
  · exact whenever_of (by simp [hr, hst, Link.position, hpos])
  · exact whenever_of (by simp [hr, hst])
  · have hexec : exec .stallTimerExpiry s =
        .next (conclude s (reportLink .stall s.link ⟨{ s with link := Link.reset }, []⟩)) :=
      whenever_of (by simp [hr, hst, Option.isSome_iff_ne_none, hstall])
    rw [reportLink_eq] at hexec
    exact ⟨linkLeaves Link.reset (linkDrafts 1 s) s, hexec, linkLeaves_spec ..⟩

/-! ## The check (section 11.6) -/

/-- A word's bits into the register, bit 15 first. -/
theorem crcWord_eq (r w : Word) :
    crcWord r w = ((List.range 16).map fun i => bit w (15 - i)).foldl crcBit r := by
  rw [crcWord, List.foldl_map]

/-- A register that takes its own bits from bit 15 down only shifts. -/
theorem crcBit_own_bits (r : Word) {n : Nat} (hn : n ≤ 16) :
    (List.range n).foldl (fun x i => crcBit x (bit r (15 - i))) r = r <<< n := by
  induction n with
  | zero => simp
  | succ n ih =>
    have htop : bit (r <<< n) 15 = bit r (15 - n) := by
      have hlow : ¬15 < n := by omega
      rw [bit, BitVec.getLsbD_shiftLeft, decide_eq_false hlow]
      rfl
    rw [List.range_succ, List.foldl_append, ih (by omega)]
    simp only [List.foldl_cons, List.foldl_nil, crcBit, htop, bne_self_eq_false, Bool.false_eq_true, if_false]
    exact (BitVec.shiftLeft_add r n 1).symm

theorem crcWord_self (r : Word) : crcWord r r = 0 := by
  rw [crcWord, crcBit_own_bits r le_rfl]
  exact BitVec.shiftLeft_eq_zero le_rfl

theorem crc_append (ws : List Word) (w : Word) : crc (ws ++ [w]) = crcWord (crc ws) w := by
  simp [crc, crcFrom]

/-! ## The tests of a complete frame (R126) -/

/-- The link a complete frame leaves, by how it fares. -/
def frameLink (l : Link) : FrameVerdict → Link
  | .refusedCheck => { l with stall := none }.answer [3]
  | .refusedRange => { l with stall := none }.answer [4]
  | .refusedBusy => { l with stall := none }.answer [5]
  | .accepted => { l with stall := none, state := .serving, index := 1 }

/-- The records a complete frame leaves, by how it fares. -/
def frameDrafts (s : State) : FrameVerdict → List Draft
  | .refusedCheck => linkDrafts 2 s
  | .refusedRange => linkDrafts 3 s
  | .refusedBusy | .accepted => []

theorem exec_requestFrame {s : State} (hr : s.resetHeld = false) (hst : s.link.state = .receiving)
    (hpos : s.link.buf.length + 1 = s.link.checkPosition) (w : Word) (mark : Bool) :
    exec (.requestFrame w mark) s = .next (settle
      (linkLeaves (frameLink s.link (judgeFrame s w)) (frameDrafts s (judgeFrame s w)) s)) := by
  have hguard : (!s.resetHeld && s.link.state == .receiving && s.link.position == s.link.checkPosition) = true := by
    simp [hr, hst, Link.position, hpos]
  refine (whenever_of hguard).trans (congrArg (Host.Outcome.next ∘ conclude s) ?_)
  cases judgeFrame s w
  case refusedCheck => exact reportLink_eq .check _
  case refusedRange => exact reportLink_eq .range _
  case refusedBusy | accepted => rfl

section Judge
variable {s : State} {w : Word}

theorem judgeFrame_check (h : crc s.link.buf ≠ w) : judgeFrame s w = .refusedCheck := if_pos h

theorem judgeFrame_range (hgood : crc s.link.buf = w) (h : ¬s.link.addr.toNat + s.link.count ≤ 0x10000) :
    judgeFrame s w = .refusedRange := by
  have hcount : 1 ≤ s.link.count := Nat.le_add_left ..
  simp only [judgeFrame, hgood, ne_eq, not_true_eq_false, if_false]
  exact if_pos (by omega)

/-- A frame that passes its check and its range is refused by START alone. -/
theorem judgeFrame_fits (hgood : crc s.link.buf = w) (h : s.link.addr.toNat + s.link.count ≤ 0x10000) :
    judgeFrame s w = if s.ctl.state = .start then .refusedBusy else .accepted := by
  have hcount : 1 ≤ s.link.count := Nat.le_add_left ..
  simp only [judgeFrame, hgood, ne_eq, not_true_eq_false, if_false]
  exact if_neg (by omega)

end Judge

/-- Settles O37: the check bit by bit, and the frame by the verdict of its tests. -/
theorem framesAreTestedInOrder : Obligations.FramesAreTestedInOrder := by
  refine ⟨fun ws => ⟨?_, by rw [crc_append, crcWord_self]⟩, fun s w mark hr hst hpos => ?_⟩
  · rw [List.foldl_flatMap]
    exact congrArg (fun f => ws.foldl f 0xFFFF) (funext₂ crcWord_eq)
  · intro l good fits answers record
    have hexec := exec_requestFrame hr hst hpos w mark
    obtain ⟨hlink, hsub, hframe⟩ := linkLeaves_spec (frameLink s.link (judgeFrame s w))
      (frameDrafts s (judgeFrame s w)) s
    refine ⟨_, hexec, fun h => ?_, fun hgood h => ?_, fun hgood h hstart => ?_, fun hgood h hstart => ?_, hframe⟩
    · rw [judgeFrame_check h] at hlink hsub ⊢
      exact ⟨hlink, hsub⟩
    · rw [judgeFrame_range hgood h] at hlink hsub ⊢
      exact ⟨hlink, hsub⟩
    all_goals
      rw [judgeFrame_fits hgood h] at hlink hsub ⊢
      simp only [hstart, if_true, if_false] at hlink hsub ⊢
      exact ⟨hlink, hsub⟩

end Sys2Proof.Machine
end

section
namespace Sys2Proof.Machine

open Sys2Proof Sys2Proof.Config

/-! ## The response of a served WRITE (R131, section 11.5) -/

theorem WordOutcome.code_lt (o : WordOutcome) : o.code < 3 := by cases o <;> decide

/-- The most severe of the outcomes, `m` standing for those before them. -/
theorem foldl_max_code (os : List WordOutcome) (m : Nat) :
    let x := os.foldl (fun a o => max a o.code) m
    m ≤ x ∧ (∀ o ∈ os, o.code ≤ x) ∧ (x = m ∨ ∃ o ∈ os, o.code = x) := by
  induction os generalizing m with
  | nil => exact ⟨le_rfl, nofun, .inl rfl⟩
  | cons o os ih =>
    obtain ⟨hm, hle, hmem⟩ := ih (max m o.code)
    rw [List.foldl_cons]
    refine ⟨(le_max_left ..).trans hm, List.forall_mem_cons.mpr ⟨(le_max_right ..).trans hm, hle⟩, ?_⟩
    rw [List.exists_mem_cons_iff]
    rcases hmem with h | h
    · rw [h]
      rcases max_choice m o.code with hc | hc <;> rw [hc]
      · exact .inl rfl
      · exact .inr (.inl rfl)
    · exact .inr (.inr h)

theorem worstStatus_spec (os : List WordOutcome) :
    (∀ o ∈ os, o.code ≤ (worstStatus os).toNat) ∧
      ((worstStatus os).toNat = 0 ∨ ∃ o ∈ os, o.code = (worstStatus os).toNat) := by
  obtain ⟨-, hle, hmem⟩ := foldl_max_code os 0
  have hsmall : os.foldl (fun a o => max a o.code) 0 ≤ 65535 := by
    rcases hmem with h | ⟨o, -, h⟩
    · omega
    · have := o.code_lt
      omega
  rw [worstStatus, word_toNat hsmall]
  exact ⟨hle, hmem⟩

/-- The outcomes of a response word are the digits of a number to the base 4, the first the lowest. -/
theorem foldl_outcomes (os : List WordOutcome) (k acc : Nat) :
    (os.zipIdx k).foldl (fun a o => a + o.1.code * 4 ^ o.2) acc =
      acc + 4 ^ k * Nat.ofDigits 4 (os.map WordOutcome.code) := by
  induction os generalizing k acc with
  | nil => simp
  | cons o os ih =>
    rw [List.zipIdx_cons, List.foldl_cons, ih, List.map_cons, Nat.ofDigits_cons, pow_succ]
    push_cast
    ring

/-- A digit of a number to the base 4. -/
theorem ofDigits_digit {ds : List Nat} (h : ∀ d ∈ ds, d < 4) (i : Nat) :
    Nat.ofDigits 4 ds / 4 ^ i % 4 = ds[i]?.getD 0 := by
  rw [Nat.ofDigits_div_pow_eq_ofDigits_drop i (by decide) ds h, ← List.head?_drop]
  cases hrest : ds.drop i with
  | nil => rfl
  | cons d rest =>
    have hd : d < 4 := h d (List.mem_of_mem_drop (hrest ▸ List.mem_cons_self))
    rw [Nat.ofDigits_cons, List.head?_cons, Option.getD_some]
    omega

/-- Two bits of a response word are the outcome of their word, or 0 where the request has no such word. -/
theorem field_outcomeWord (os : List WordOutcome) {i : Nat} (hi : i < 8) :
    field (outcomeWord os) (2 * i) 2 = ((os[i]?).map WordOutcome.code).getD 0 := by
  have hdigits : ∀ d ∈ (os.take 8).map WordOutcome.code, d < 4 := by
    intro d hd
    obtain ⟨o, -, rfl⟩ := List.mem_map.mp hd
    exact o.code_lt.trans (by decide)
  have hlength : ((os.take 8).map WordOutcome.code).length ≤ 8 := by simp
  have hsmall : Nat.ofDigits 4 ((os.take 8).map WordOutcome.code) < 4 ^ 8 :=
    (Nat.ofDigits_lt_base_pow_length (by decide) hdigits).trans_le (Nat.pow_le_pow_right (by decide) hlength)
  have hword : (outcomeWord os).toNat = Nat.ofDigits 4 ((os.take 8).map WordOutcome.code) := by
    rw [outcomeWord, foldl_outcomes, Nat.zero_add, pow_zero, Nat.one_mul, word_toNat (by omega)]
  rw [field, hword, pow_mul]
  exact (ofDigits_digit hdigits i).trans (by simp [hi])

/-- Before its last word is disposed of a WRITE has no answer (R128). -/
theorem disposed_before {l : Link} (h : l.index ≤ l.count) : l.disposed = l :=
  if_neg fun hdone => absurd hdone.2.2 (Nat.not_lt.mpr h)

theorem disposed_after {l : Link} (hst : l.state = .serving) (hw : l.isWrite = true) (h : l.count < l.index) :
    l.disposed =
      l.answer [worstStatus l.outcomes, outcomeWord l.outcomes, outcomeWord (l.outcomes.drop 8)] :=
  if_pos ⟨hst, hw, h⟩

/-! ## The completions of host accesses (R127, R128, R141) -/

/-- Which completion an access in flight awaits. -/
theorem completing_eq {s : State} {p : Purpose} {a : Word} {k : AccessKind} (hr : s.resetHeld = false)
    (hp : s.port.inFlight = some ⟨p, a, k⟩) (q : Purpose) : s.completing q = (p == q) := by
  simp [State.completing, hr, hp]

section Completion
variable {s : State} {a : Word} {k : AccessKind} (hr : s.resetHeld = false)
include hr

theorem exec_hostReadCompletion (hp : s.port.inFlight = some ⟨.hostRead, a, k⟩) (v : Word) :
    exec (.hostReadCompletion v) s = .next (settle (s.portFree.updLink fun l => l.readDone v)) := by
  refine (whenever_of ?_).trans (congrArg Host.Outcome.next (conclude_upd rfl))
  rw [completing_eq hr hp]
  rfl

/-- A stepped word's write ends its record; a forwarded word has none. -/
theorem exec_hostWriteCompletion {p : Purpose} {x : Option Stepped} (hp : s.port.inFlight = some ⟨p, a, k⟩)
    (hx : p = .hostWrite ∧ x = s.stepped ∨ p = .stepWrite ∧ x = none) : exec .hostWriteCompletion s =
      .next (settle { s.portFree.updLink Link.disposed with stepped := x }) := by
  have hcompleting := completing_eq hr hp
  rcases hx with ⟨rfl, rfl⟩ | ⟨rfl, rfl⟩
  all_goals
    refine (whenever_of ?_).trans (congrArg Host.Outcome.next ((conclude_upd rfl).trans ?_))
    · rw [hcompleting, hcompleting]; rfl
    · rw [hcompleting]; rfl

theorem exec_stepPreReadCompletion {x : Stepped} (hs : s.stepped = some x)
    (hp : s.port.inFlight = some ⟨.stepRead, a, k⟩) (c : Word) {f : Word}
    (hf : f = word (stepBound (s.param (offGuardC x.entry.val)) c.toNat x.value.toNat)) :
    exec (.stepPreReadCompletion c) s = .next (settle
      { s.portFree.updLink fun l => { l with outcomes := l.outcomes ++ [outcomeOf x.value f] } with
        stepped := some { x with preRead := some c, forward := f } }) := by
  subst hf
  show execStepPreReadCompletion c s = _
  unfold execStepPreReadCompletion
  simp only [hs, completing_eq hr hp]
  exact congrArg Host.Outcome.next (conclude_upd rfl)

end Completion

/-- R141: the forwarded value is w held within one step of the value read. -/
theorem stepBound_spec {step c w : Nat} (hc : c ≤ 65535) (hw : w ≤ 65535) :
    stepBound step c w ≤ 65535 ∧ c - step ≤ stepBound step c w ∧ stepBound step c w ≤ c + step ∧
      (c - step ≤ w → w ≤ c + step → stepBound step c w = w) ∧
      (w < c - step → stepBound step c w = c - step) ∧
      (c + step < w → stepBound step c w = c + step) := by
  unfold stepBound
  omega

/-- Settles O38: each completion by its own lemma, the response's words by `field_outcomeWord`. -/
theorem hostAccessesComplete : Obligations.HostAccessesComplete := by
  refine ⟨fun s a k hr => ⟨fun v hp => exec_hostReadCompletion hr hp v,
    fun hp => exec_hostWriteCompletion hr hp (.inl ⟨rfl, rfl⟩),
    fun hp => exec_hostWriteCompletion hr hp (.inr ⟨rfl, rfl⟩)⟩,
    fun l hst hw hlength => ⟨disposed_before, fun h => ?_⟩, fun s c x a k hr hs hp => ?_⟩
  · obtain ⟨hle, hmem⟩ := worstStatus_spec l.outcomes
    refine ⟨_, _, _, disposed_after hst hw h, hle, hmem, fun i => ⟨field_outcomeWord l.outcomes i.isLt, ?_⟩⟩
    rw [field_outcomeWord _ i.isLt, List.getElem?_drop]
  · intro step
    have hc := c.isLt
    have hx := x.value.isLt
    obtain ⟨hmax, hlow, hhigh, hin, hunder, hover⟩ :=
      stepBound_spec (step := step) (c := c.toNat) (w := x.value.toNat) (by omega) (by omega)
    refine ⟨_, hmax, hlow, hhigh, hin, hunder, hover, ?_⟩
    have houtcome : (word (stepBound step c.toNat x.value.toNat) = x.value) =
        (stepBound step c.toNat x.value.toNat = x.value.toNat) := by
      rw [← BitVec.toNat_inj, word_toNat hmax]
    rw [exec_stepPreReadCompletion hr hs hp c rfl, outcomeOf]
    simp only [← houtcome]
    rfl

end Sys2Proof.Machine
end

section
namespace Sys2Proof.Machine

open Sys2Proof Sys2Proof.Config

/-! ## The classification of a host word's address (R129, R137, R147) -/

/-- The lowest-numbered entry that satisfies a test is the one a scan in ascending order finds. -/
theorem find_finRange_lowest {n : Nat} {p : Fin n → Bool} {i : Fin n} (hi : p i = true)
    (hlow : ∀ j, j < i → ¬p j = true) : (List.finRange n).find? p = some i := by
  obtain ⟨before, after, hsplit, hbefore, -⟩ := finRange_split i
  rw [List.find?_eq_some_iff_append]
  refine ⟨hi, before, after, hsplit, fun j hj => ?_⟩
  rw [Bool.eq_false_of_not_eq_true (hlow j ((hbefore j).mp hj))]
  rfl

theorem find_finRange_none {n : Nat} {p : Fin n → Bool} (h : ∀ i, ¬p i = true) :
    (List.finRange n).find? p = none :=
  List.find?_eq_none.mpr fun i _ => h i

section Address
variable {s : State} {a : Word}

/-- The control table is 1024 words from its base (R147). -/
theorem inTable_iff : s.inTable a = true ↔
    s.straps.toNat * 0x1000 ≤ a.toNat ∧ a.toNat - s.straps.toNat * 0x1000 < 0x400 := by
  rw [State.inTable, Bool.and_eq_true, decide_eq_true_iff, decide_eq_true_iff, State.base]
  omega

/-- A level record has the address (R73). -/
theorem levelHas_iff {i : Fin 9} :
    (s.image.recs[i]).any (fun r => r.addr == a) = true ↔ ∃ r, s.image.recs[i] = some r ∧ r.addr = a := by
  simp [Option.any_eq_true]

/-- A guard entry decides about the address (R137). -/
theorem guardMatches_iff {g : Fin 16} : s.guardMatches a g = true ↔
    let e := s.word (0x025 + 3 * g.val)
    let m := s.word (0x021 + field e 3 2)
    bit e 0 = true ∧ a &&& m = s.word (0x026 + 3 * g.val) &&& m := by
  rw [State.guardMatches, Bool.and_eq_true, beq_iff_eq]
  rfl

theorem target_partOwned (h : s.inTable a = true) (hoff : 0x200 ≤ a.toNat - s.straps.toNat * 0x1000) :
    s.target a = .partOwned := by
  rw [State.target, if_pos h]
  exact if_pos hoff

theorem target_config (h : s.inTable a = true) (hoff : a.toNat - s.straps.toNat * 0x1000 < 0x200) :
    s.target a = configTarget (a.toNat - s.straps.toNat * 0x1000) := by
  rw [State.target, if_pos h]
  exact if_neg (Nat.not_le.mpr hoff)

/-- Outside the table the level records come before the guard entries. -/
theorem target_level (h : ¬s.inTable a = true) {i : Fin 9} (hi : s.levelAt a = some i) :
    s.target a = .level i := by
  simp only [State.target, if_neg h, hi]

theorem target_guard (h : ¬s.inTable a = true) (hi : s.levelAt a = none) {g : Fin 16}
    (hg : s.guardFor a = some g) : s.target a = .guard g := by
  simp only [State.target, if_neg h, hi, hg]

theorem target_pass (h : ¬s.inTable a = true) (hi : s.levelAt a = none) (hg : s.guardFor a = none) :
    s.target a = .pass := by
  simp only [State.target, if_neg h, hi, hg]

end Address

/-- Settles O40: the tests in order, each scan finding the lowest entry. -/
theorem addressesAreClassifiedInOrder : Obligations.AddressesAreClassifiedInOrder := by
  intro s a off inTable has guards
  have hhas (i : Fin 9) : (s.image.recs[i]).any (fun r => r.addr == a) = true ↔ has i := levelHas_iff
  have hguards (g : Fin 16) : s.guardMatches a g = true ↔ guards g := guardMatches_iff
  refine ⟨fun h => target_partOwned (inTable_iff.mpr h), fun h => target_config (inTable_iff.mpr h), fun h => ?_⟩
  have hout : ¬s.inTable a = true := mt inTable_iff.mp h
  refine ⟨fun i hi hlow => target_level hout ?_, fun hnone => ?_⟩
  · exact find_finRange_lowest ((hhas i).mpr hi) fun j hj => mt (hhas j).mp (hlow j hj)
  · have hlevel : s.levelAt a = none := find_finRange_none fun i => mt (hhas i).mp (hnone i)
    refine ⟨fun g hg hlow => target_guard hout hlevel ?_, fun hfree => target_pass hout hlevel ?_⟩
    · exact find_finRange_lowest ((hguards g).mpr hg) fun j hj => mt (hguards j).mp (hlow j hj)
    · exact find_finRange_none fun g => mt (hguards g).mp (hfree g)

end Sys2Proof.Machine
end

section
namespace Sys2Proof.Machine

open Sys2Proof Sys2Proof.Config

/-! ## Words without a row of their own (R129, R130, R138 to R141, R149) -/

section TakeHostWord
variable {s : State} {a w : Word}

/-- A word that no block acts on and that is HELD. -/
theorem takeHostWord_heldBack (hw : s.handoffWord = some (a, w))
    (ht : treat s (s.target a) w = (Ev.of s, .held)) :
    heldBack s (takeHostWord s a w) ∧ changesOnly [.link] s (takeHostWord s a w) := by
  have hheld := handoff_held (kind := fun _ _ _ => true) hw rfl ht rfl rfl rfl rfl rfl rfl
  rw [handoffOf_of hw rfl] at hheld
  rw [Host.Outcome.next.inj hheld]
  refine ⟨⟨rfl, rfl⟩, rfl, fun b hb => ?_⟩
  cases b <;> simp at hb <;> simp [sameBlock]

/-- A word that no block acts on and that is forwarded. -/
theorem takeHostWord_forwarded {v : Word} {p : Purpose}
    (ht : treat s (s.target a) w = (Ev.of s, .forward v p)) :
    forwarded s (takeHostWord s a w) a w v p ∧ changesOnly [.port, .link] s (takeHostWord s a w) := by
  rw [takeHostWord_forward ht, Ev.of_out, submitAll_nil, imageReact_of_ceil (by simp)]
  refine ⟨forwarded_of rfl rfl, rfl, fun b hb => ?_⟩
  cases b <;> simp at hb <;> simp [sameBlock]

/-- A word whose pre-read is issued: its outcome waits for the value read (R141). -/
theorem takeHostWord_stepped {g : Fin 16} (ht : treat s (s.target a) w = (Ev.of s, .step g)) :
    let t := takeHostWord s a w
    t.stepped = some ⟨a, w, g, none, w⟩ ∧
      t.port = { s.port with inFlight := some ⟨.stepRead, a, .read⟩ } ∧
      t.link = { s.link with index := s.link.index + 1 } ∧ changesOnly [.stepped, .port, .link] s t := by
  have htake : takeHostWord s a w = dispose a w (.step g) s := by
    rw [takeHostWord, ht]
    exact (conclude_upd (f := dispose a w (.step g)) rfl).trans (settle_of_busy nofun)
  rw [htake]
  refine ⟨rfl, rfl, rfl, rfl, fun b hb => ?_⟩
  cases b <;> simp at hb <;> simp [sameBlock, dispose]

/-- A configuration word of which the blocks do nothing but store it. -/
theorem takeHostWord_justStored {off : Nat} {v : Word} (h1 : 1 ≤ off) (h2 : off ≤ 0x121)
    (ht : treat s (s.target a) w = (⟨startSweep (s.store off v), []⟩, .forward v .hostWrite)) :
    justStored off a w v s (takeHostWord s a w) := by
  have htake : takeHostWord s a w = posted a w v (s.store off v) := by
    rw [takeHostWord_forward ht, submitAll_nil]
    exact imageReact_of_ceil rfl
  rw [htake]
  obtain ⟨hstored, hsweep, hforward, hblocks⟩ := posted_stored (a := a) (w := w) (v := v)
    (x := s.store off v) h1 h2 rfl
  refine ⟨hstored, hsweep, hforward, hblocks.narrow fun b hb hout => ?_⟩
  cases b <;> simp at hb hout <;> simp [sameBlock, posted]

end TakeHostWord

/-! ### Guarded words -/

section Guard
variable {s : State} {g : Fin 16} {w : Word}

/-- BLOCK, HOLD_MUTED while INHIBIT is asserted, and HOLD_MODULE_OFF while the module of the entry's zone is OFF
or RECOVERING (R138 to R140). -/
def guardHolds (s : State) (g : Fin 16) : Prop :=
  let e := s.word (offGuardA g.val)
  let zone := (s.mods.mods[guardZone e]).state
  field e 1 2 = 0 ∨ (field e 1 2 = 1 ∧ s.ctl.inhibit = true) ∨
    (field e 1 2 = 2 ∧ (zone = .off ∨ zone = .recovering))

theorem guardAction_held (h : guardHolds s g) (w : Word) : guardAction s g w = .held := by
  rcases h with hkind | ⟨hkind, hinhibit⟩ | ⟨hkind, hzone⟩
  · simp [guardAction, guardKind, hkind]
  · simp [guardAction, guardKind, hkind, hinhibit]
  · rcases hzone with hzone | hzone <;> simp only [guardAction, guardKind, hkind, hzone]

theorem guardAction_step (h : field (s.word (offGuardA g.val)) 1 2 = 3) (w : Word) :
    guardAction s g w = .step g := by
  simp [guardAction, guardKind, h]

theorem guardAction_forward (h : ¬guardHolds s g) (h3 : field (s.word (offGuardA g.val)) 1 2 ≠ 3) (w : Word) :
    guardAction s g w = .forward w .hostWrite := by
  obtain ⟨hblock, hmuted, hoff⟩ : _ ∧ _ ∧ _ := by simpa only [guardHolds, not_or, not_and] using h
  have hkinds : field (s.word (offGuardA g.val)) 1 2 < 4 := Nat.mod_lt _ (by decide)
  obtain hkind | hkind : field (s.word (offGuardA g.val)) 1 2 = 1 ∨ field (s.word (offGuardA g.val)) 1 2 = 2 := by
    omega
  · simp [guardAction, guardKind, hkind, hmuted hkind]
  · obtain ⟨hoff, hrecovering⟩ := hoff hkind
    cases hzone : (s.mods.mods[guardZone (s.word (offGuardA g.val))]).state
    case off => exact absurd hzone hoff
    case recovering => exact absurd hzone hrecovering
    case on | absent => simp only [guardAction, guardKind, hkind, hzone]

end Guard

/-! ### Plainly stored words -/

/-- A system parameter without a row of its own is read where it acts. -/
theorem applyParam_plain {off : Nat} (h : off ∉ ownParams) (old new : Word) (e : Ev) :
    applyParam off old new e = e := by
  simp only [ownParams, mismatchParams, limitParams, List.mem_append, List.mem_cons, List.not_mem_nil, or_false,
    not_or] at h
  simp [applyParam, h]

/-- Such a parameter is stored, and nothing else becomes of it. -/
theorem treat_plainParam {s : State} {off : Nat} {w v : Word} (hoff : off ∉ ownParams)
    (hj : s.judge (.param off) w = .taken v) :
    treat s (.param off) w = (⟨startSweep (s.store off v), []⟩, .forward v .hostWrite) := by
  simp only [treat, hj, Target.offset, applyConfig, applyParam_plain hoff]
  rfl

/-- A source word that leaves the enable bit is stored, and nothing else becomes of it. -/
theorem treat_source_same {s : State} {i : Fin 5} {w : Word} (h : bit (s.sourceWord i) 0 = bit w 0) :
    treat s (.source i) w = (⟨startSweep (s.store (offSource i.val) (validSource w)), []⟩,
      .forward (validSource w) .hostWrite) := by
  have hsame := applySource_same (i := i) (s := s.store (offSource i.val) (validSource w))
    (h.trans (validSource_enable w).symm)
  exact congrArg (fun x => ((⟨startSweep x, []⟩ : Ev), Disposal.forward (validSource w) .hostWrite)) hsame

/-- A source word that changes no setting has no row of its own. -/
theorem hasOwnRow_source {s : State} {a w : Word} {i : Fin 5} (ht : s.target a = .source i)
    (h : bit (s.sourceWord i) 0 = bit w 0)
    (hkept : bit w 0 = true → srcPolarity (s.sourceWord i) = srcPolarity (validSource w) ∧
      srcDebounce (s.sourceWord i) = srcDebounce (validSource w)) : hasOwnRow s a w = false := by
  have hrow : hasOwnRow s a w =
      (isSource enables s a w || isSource disables s a w || isSourceSetting s a w) := by
    rw [hasOwnRow, ht]
  rw [hrow, isSourceSetting, isSource_eq ht, isSource_eq ht, isSource_eq ht, enables, disables, staysEnabled,
    validSource_enable, h]
  cases hbit : bit w 0
  · rfl
  · obtain ⟨hpolarity, hdebounce⟩ := hkept hbit
    simp [hpolarity, hdebounce]

/-- What WRITE_WORD leaves of a word without a row of its own. -/
theorem exec_writeWord_of {s : State} {a w : Word} (hw : s.handoffWord = some (a, w)) :
    exec .writeWord s = .next (if hasOwnRow s a w = true then s else takeHostWord s a w) := by
  rw [exec_writeWord, handoffOf, hw]
  cases h : hasOwnRow s a w <;> simp [whenever_eq, h]

/-- Settles O41: each kind of word by what `treat` makes of it. -/
theorem wordsWithoutARowOfTheirOwn : Obligations.WordsWithoutARowOfTheirOwn := by
  intro s a w hw
  refine ⟨_, exec_writeWord_of hw, ?_⟩
  have htaken (hrow : hasOwnRow s a w = false) :
      (if hasOwnRow s a w = true then s else takeHostWord s a w) = takeHostWord s a w := by rw [hrow]; rfl
  refine ⟨fun ht => ?_, fun ht => ?_, fun g ht => ?_, fun ht => ?_, fun m ht => ?_, fun p hp ht => ?_, fun ht => ?_,
    fun i ht => ?_⟩
  · rw [htaken (by rw [hasOwnRow, ht])]
    exact takeHostWord_heldBack hw (by rw [ht]; rfl)
  · have hrow : hasOwnRow s a w = false := by rcases ht with ht | ht <;> rw [hasOwnRow, ht]
    rw [htaken hrow]
    exact takeHostWord_forwarded (by rcases ht with ht | ht <;> rw [ht] <;> rfl)
  · rw [htaken (by rw [hasOwnRow, ht])]
    have htreat : treat s (s.target a) w = (Ev.of s, guardAction s g w) := by rw [ht]; rfl
    refine ⟨fun hheld => takeHostWord_heldBack hw (htreat.trans ?_),
      fun hheld hkind => takeHostWord_forwarded (htreat.trans ?_),
      fun hkind => takeHostWord_stepped (htreat.trans ?_)⟩
    · rw [guardAction_held hheld]
    · rw [guardAction_forward hheld hkind]
    · rw [guardAction_step hkind]
  · rw [htaken (by rw [hasOwnRow, ht])]
    exact takeHostWord_justStored (by decide) (by decide) (by rw [ht]; rfl)
  · rw [htaken (by rw [hasOwnRow, ht])]
    exact takeHostWord_justStored (by omega) (by omega) (by rw [ht]; rfl)
  · have hfacts : ∀ p ∈ ([(0x005, 0, 4096), (0x006, 1, 4096), (0x007, 1, 255), (0x008, 5, 500), (0x00A, 2, 8),
        (0x00B, 1, 600), (0x00C, 1, 600), (0x015, 1, 50), (0x016, 1, 100)] : List (Nat × Nat × Nat)),
        p.1 ∉ ownParams ∧ (p.1 ≠ offPresentMask ∧ p.1 ≠ offAlertMask) ∧ paramRange p.1 = p.2 ∧
          p.2.1 ≤ p.2.2 ∧ p.2.2 ≤ 65535 ∧ 1 ≤ p.1 ∧ p.1 ≤ 0x121 := by decide
    obtain ⟨hown, hmask, hrange, hlo, hhi, h1, h2⟩ := hfacts p hp
    rw [htaken (by simp [hasOwnRow, ht, hown])]
    exact takeHostWord_justStored h1 h2 (by rw [ht, treat_plainParam hown (judge_param w hmask hrange hlo hhi)])
  · rw [htaken (by rw [hasOwnRow, ht]; rfl)]
    exact takeHostWord_justStored (by decide) (by decide) (by rw [ht, treat_plainParam (by decide) rfl])
  · intro old v hsame hkept
    have hv : validSource w = v := validSource_eq w
    obtain ⟨h1, h2⟩ := offSource_bounds i
    rw [← hv] at hkept ⊢
    rw [htaken (hasOwnRow_source ht hsame hkept)]
    exact takeHostWord_justStored h1 h2 (by rw [ht, treat_source_same hsame]; rfl)

end Sys2Proof.Machine
end

section
namespace Sys2Proof.Machine

open Sys2Proof Sys2Proof.Config

/-! ## The words of guard and level entries (R68, R143, R144, R145) -/

/-- A word of a guard entry, or the address word of a level entry: while the entry is enabled it is locked. -/
def Target.entryWord : Target → Bool
  | .guardA _ | .guardB _ | .guardC _ | .levelAddr _ => true
  | _ => false

/-- The entries' words are shadowed, at 0x018 to 0x020 and 0x025 to 0x054 (R147). -/
theorem Target.entryWord_bounds {t : Target} {off : Nat} (ht : t.entryWord = true) (ho : t.offset = some off) :
    1 ≤ off ∧ off ≤ 0x121 := by
  cases t with
  | guardA g | guardB g | guardC g | levelAddr i =>
    simp only [Target.offset, Option.some.injEq, offGuardA, offGuardB, offGuardC, offLevelAddr] at ho
    omega
  | _ => exact absurd ht Bool.false_ne_true

section Treat
variable {s : State} {t : Target} {w : Word}

/-- R149: an entry's word that is HELD does nothing but start a sweep. -/
theorem treat_entryWord_held (ht : t.entryWord = true) (hj : s.judge t w = .held) :
    treat s t w = ((Ev.of s).upd startSweep, .held) := by
  cases t with
  | guardA g | guardB g | guardC g | levelAddr i => simp only [treat, hj]; rfl
  | _ => exact absurd ht Bool.false_ne_true

/-- R149: no block acts on an entry's word as it is stored. -/
theorem treat_entryWord_taken {off : Nat} {v : Word} (ht : t.entryWord = true) (ho : t.offset = some off)
    (hj : s.judge t w = .taken v) :
    treat s t w = (⟨startSweep (s.store off v), []⟩, .forward v .hostWrite) := by
  cases t with
  | guardA g | guardB g | guardC g | levelAddr i =>
    rw [← Option.some.inj ho]
    simp only [treat, hj, Target.offset]
    rfl
  | _ => exact absurd ht Bool.false_ne_true

end Treat

/-! ### The locks -/

section Locks
variable (s : State) (w : Word)

/-- R143: word A of an enabled entry is taken only if it disables the entry. -/
theorem judge_guardA (g : Fin 16) : s.judge (.guardA g) w =
    if bit (s.word (offGuardA g.val)) 0 = true ∧ bit w 0 = true then .held else .taken (w &&& 0x00FF) := by
  simp only [State.judge, guardEnable, Bool.and_eq_true, validGuardA]

/-- R144: the base of an enabled entry is not taken. -/
theorem judge_guardB (g : Fin 16) : s.judge (.guardB g) w =
    if bit (s.word (offGuardA g.val)) 0 = true then .held else .taken w := rfl

/-- R144, R145: the step of an enabled entry is not taken, and a step of 0 is stored as 1. -/
theorem judge_guardC (g : Fin 16) : s.judge (.guardC g) w =
    if bit (s.word (offGuardA g.val)) 0 = true then .held else .taken (if w = 0 then 1 else w) := rfl

/-- R68: the address of an enabled level entry is not taken. -/
theorem judge_levelAddr (i : Fin 9) : s.judge (.levelAddr i) w =
    if bit (s.word offLevelMask) i.val = true then .held else .taken w := rfl

end Locks

section Handoff
variable {s : State} {a w : Word}

/-- A configuration word that is HELD, of which no block takes notice. -/
theorem takeHostWord_justHeld (hw : s.handoffWord = some (a, w))
    (ht : treat s (s.target a) w = ((Ev.of s).upd startSweep, .held)) : justHeld s (takeHostWord s a w) := by
  have hheld := handoff_held (kind := fun _ _ _ => true) hw rfl ht rfl rfl rfl rfl rfl rfl
  rw [handoffOf_of hw rfl] at hheld
  rw [Host.Outcome.next.inj hheld]
  refine ⟨?_, ⟨rfl, rfl⟩, rfl, fun b hb => ?_⟩
  · simp [sweepStarted, startSweep, offFirstCovered]
  · cases b <;> simp at hb <;> simp [sameBlock]

/-- An entry's word is HELD under its lock `p`, and otherwise just stored. -/
theorem takeHostWord_entryWord {t : Target} {off : Nat} {v : Word} {p : Prop} [Decidable p]
    (hw : s.handoffWord = some (a, w)) (ht : s.target a = t) (he : t.entryWord = true) (ho : t.offset = some off)
    (hj : s.judge t w = if p then .held else .taken v) :
    if p then justHeld s (takeHostWord s a w) else justStored off a w v s (takeHostWord s a w) := by
  subst ht
  obtain ⟨hlo, hhi⟩ := Target.entryWord_bounds he ho
  split
  case isTrue hlock =>
    rw [if_pos hlock] at hj
    exact takeHostWord_justHeld hw (treat_entryWord_held he hj)
  case isFalse hfree =>
    rw [if_neg hfree] at hj
    exact takeHostWord_justStored hlo hhi (treat_entryWord_taken he ho hj)

end Handoff

/-- Settles O42: each kind of word by its lock. -/
theorem enabledEntriesAreLocked : Obligations.EnabledEntriesAreLocked := by
  intro s a w hw
  refine ⟨fun g ht => ⟨_, handoffOf_of hw ?_, takeHostWord_entryWord hw ht rfl rfl (judge_guardA s w g)⟩,
    fun g ht => ⟨_, handoffOf_of hw ?_, takeHostWord_entryWord hw ht rfl rfl (judge_guardB s w g)⟩,
    fun g ht => ⟨_, handoffOf_of hw ?_, takeHostWord_entryWord hw ht rfl rfl (judge_guardC s w g)⟩,
    fun i ht => ⟨_, handoffOf_of hw ?_, takeHostWord_entryWord hw ht rfl rfl (judge_levelAddr s w i)⟩⟩
  all_goals rw [isTarget, ht]

end Sys2Proof.Machine
end

section
/-! # The control table and its shadow (chapter 9, sections 8.4, 10.4)

Which word stands at which offset and what validation makes of it; the table load, word by word up to load
completion; a sweep's verdict and the consumed index; and over every step the start-up invariant and what may
change a stored setting. -/

namespace Sys2Proof.Machine

open Sys2Proof Sys2Proof.Config

/-! ## The words of the table (R147) -/

/-- A configuration word's target names the offset the word stands at. -/
theorem configTarget_offset {n off : Nat} (h : (configTarget n).offset = some off) :
    n = off ∧ 1 ≤ off ∧ off ≤ 0x121 := by
  revert h
  unfold configTarget
  repeat' split
  all_goals
    intro h
    simp only [Target.offset, Option.some.injEq, reduceCtorEq, offCommand, offConsumed, offReference, offProofWindow,
      offLevelMask, offLevelAddr, offGuardMask, offGuardA, offGuardB, offGuardC, offSource, offChannel,
      offLastShadowed, Fin.ofNat, imp_false] at *
  all_goals omega

/-- A host word that a stored value belongs to is a configuration word, and stands at that offset. -/
theorem target_offset {s : State} {a : Word} {off : Nat} (h : (s.target a).offset = some off) :
    s.target a = configTarget off ∧ 1 ≤ off ∧ off ≤ 0x121 := by
  unfold State.target at h ⊢
  split at h
  next hin =>
    rw [if_pos hin]
    split at h
    · cases h
    next hlow =>
      obtain ⟨rfl, hbounds⟩ := configTarget_offset h
      exact ⟨if_neg hlow, hbounds⟩
  next =>
    split at h
    · cases h
    · split at h <;> cases h

theorem configTarget_levelAddr (i : Fin 9) : configTarget (offLevelAddr i.val) = .levelAddr i := by
  revert i; decide

theorem configTarget_guardMask (m : Fin 4) : configTarget (offGuardMask m.val) = .guardMask m := by
  revert m; decide

/-- The three words of a guard entry. -/
theorem configTarget_guard (g : Fin 16) : configTarget (offGuardA g.val) = .guardA g ∧
    configTarget (offGuardB g.val) = .guardB g ∧ configTarget (offGuardC g.val) = .guardC g := by
  revert g; decide

theorem configTarget_source (i : Fin 5) : configTarget (offSource i.val) = .source i := by
  revert i; decide

theorem configTarget_channel (c : Fin 25) (k : Fin 8) : configTarget (offChannel c.val k.val) = .channel c k := by
  revert c k; decide

/-! ## What the load's validation makes of a word (R145, R150, R151, R154) -/

/-- R150: a parameter's value at the load, when its range is given. -/
theorem loadValue_param {off lo hi : Nat} (v : Word) (ht : configTarget off = .param off)
    (hmask : off ≠ offPresentMask ∧ off ≠ offAlertMask) (hrange : paramRange off = (lo, hi)) (hlo : lo ≤ hi)
    (hhi : hi ≤ 65535) : loadValue off v = word (max lo (min hi v.toNat)) := by
  have hjudge : judgeParam off v = .taken _ := judge_param (s := State.reset) v hmask hrange hlo hhi
  simp only [loadValue, ht, hjudge]

/-- R154: at the load a present mask that names no module names all eight. -/
theorem loadValue_presentMask (v : Word) :
    loadValue offPresentMask v = if v &&& 0x00FF = 0 then 0x00FF else v &&& 0x00FF := by
  have hjudge : judgeParam offPresentMask v = if v &&& 0x00FF = 0 then .held else .taken (v &&& 0x00FF) := rfl
  have ht : configTarget offPresentMask = .param offPresentMask := rfl
  simp only [loadValue, ht, hjudge]
  split_ifs <;> rfl

theorem loadValue_channel (c : Fin 25) (k : Fin 8) (v : Word) :
    loadValue (offChannel c.val k.val) v = validChannel k.val v := by
  simp only [loadValue, configTarget_channel]

/-- Settles O6: each kind of word by the target of its offset. -/
theorem loadValidation : Obligations.LoadValidation := by
  intro v
  refine ⟨?_, rfl, loadValue_presentMask v, rfl, fun p hp => ?_, fun i => ?_, fun m => ?_,
    fun g => ⟨?_, ?_, ?_⟩, fun i => ?_, fun c => ⟨?_, fun k hk => ?_, ?_, ?_⟩⟩
  · have hconsumed : loadValue offConsumed v = if v.toNat < 32 then v else 0 := rfl
    exact hconsumed.trans (if_congr Nat.lt_succ_iff rfl rfl)
  · have hfacts : ∀ p ∈ ([(0x004, 0, 4096), (0x005, 0, 4096), (0x006, 1, 4096), (0x007, 1, 255), (0x008, 5, 500),
        (0x009, 1, 600), (0x00A, 2, 8), (0x00B, 1, 600), (0x00C, 1, 600), (0x00D, 1, 4096),
        (0x00E, 1, 4096), (0x00F, 1, 4096), (0x010, 1, 15), (0x011, 0, 4096), (0x012, 0, 4096),
        (0x014, 1, 4096), (0x015, 1, 50), (0x016, 1, 100)] : List (Nat × Nat × Nat)),
        configTarget p.1 = .param p.1 ∧ (p.1 ≠ offPresentMask ∧ p.1 ≠ offAlertMask) ∧ paramRange p.1 = p.2 ∧
          p.2.1 ≤ p.2.2 ∧ p.2.2 ≤ 65535 := by decide
    obtain ⟨ht, hmask, hrange, hlo, hhi⟩ := hfacts p hp
    rw [loadValue_param (lo := p.2.1) (hi := p.2.2) v ht hmask hrange hlo hhi, word_toNat (by omega)]
  · simp only [loadValue, ← offLevelAddr.eq_1, configTarget_levelAddr]
  · simp only [loadValue, ← offGuardMask.eq_1, configTarget_guardMask]
  · simp only [loadValue, ← offGuardA.eq_1, (configTarget_guard g).1, validGuardA]
  · simp only [loadValue, ← offGuardB.eq_1, (configTarget_guard g).2.1]
  · simp only [loadValue, ← offGuardC.eq_1, (configTarget_guard g).2.2, validStep]
  · simp only [loadValue, ← offSource.eq_1, configTarget_source, validSource_eq]
  · exact (loadValue_channel c 0 v).trans (validChannel_zero v)
  · have hplain : ∀ k ∈ [1, 2, 3, 4, 5], k < 8 ∧ validChannel k v = v := by
      simp [validChannel]
    obtain ⟨hlt, hvalid⟩ := hplain k hk
    exact (loadValue_channel c ⟨k, hlt⟩ v).trans hvalid
  · have hsix : loadValue (0x05A + 8 * c.val + 6) v = saturate 0 32767 v := loadValue_channel c 6 v
    rw [hsix, saturate_zero (by decide), word_toNat (by omega)]
  · have hseven : loadValue (0x05A + 8 * c.val + 7) v = saturate 0 4096 v := loadValue_channel c 7 v
    rw [hseven, saturate_zero (by decide), word_toNat (by omega)]

end Sys2Proof.Machine
end

section
namespace Sys2Proof.Machine

open Sys2Proof Sys2Proof.Config

/-! ## The table load, word by word (R133, R154) -/

/-- The load goes on to its next read, which a free port takes at once (R133). -/
def readNext (s : State) : State :=
  { s with
    loader := { s.loader with next := s.loader.next + 1 }
    port := ⟨some ⟨.tableRead s.loader.next, s.tableAddr s.loader.next, .read⟩, []⟩ }

/-- The load's write-back of `v` at `off`, which a free port takes at once (R133). -/
def writesBack (off : Nat) (v : Word) (s : State) : State :=
  { s with port := ⟨some ⟨.writeBack off, s.tableAddr off, .write v⟩, []⟩ }

section Free
variable {s : State} (hr : s.resetHeld = false) (hp : s.port = ⟨none, []⟩)
include hr hp

theorem settle_issueRead : settle (issueRead s) = readNext s := by
  simp [settle, State.portIdle, issueRead, State.issue, hr, hp, readNext, State.popClass1, State.begin]
  rfl

theorem settle_issue_writeBack (off : Nat) (v : Word) : settle (s.issue (.writeBack off v)) = writesBack off v s := by
  simp [settle, State.portIdle, State.issue, hr, hp, writesBack, State.popClass1, State.begin]
  rfl

end Free

section LoadEvent
variable {s x : State} (hc : x.ceil = s.ceil) (hr : x.resetHeld = false) (hp : x.port = ⟨none, []⟩)
include hc hr hp

/-- The load reads on while an offset is left. -/
theorem conclude_loadOn (hnext : x.loader.next ≤ 0x121) : conclude s (loadOn (Ev.of x)) = readNext x := by
  have hon : loadOn (Ev.of x) = (Ev.of x).upd issueRead := if_neg (Nat.not_lt.mpr hnext)
  rw [hon, ← settle_issueRead hr hp]
  exact conclude_of_ceil rfl hc

/-- A value that validation changed is written back. -/
theorem conclude_writeBack {off : Nat} {read valid : Word} (hne : valid ≠ read) :
    conclude s (writeBackOr off read valid (Ev.of x)) = writesBack off valid x := by
  rw [writeBackOr, if_neg hne, ← settle_issue_writeBack hr hp]
  exact conclude_of_ceil rfl hc

end LoadEvent

/-- A value that validation left is not written back. -/
theorem writeBackOr_same (off : Nat) (v : Word) (e : Ev) : writeBackOr off v v e = loadOn e := if_pos rfl

/-! ### The word read, by its offset -/

/-- R154: the level enable mask is kept as read. -/
theorem loadWord_mask (v : Word) (s : State) : loadWord offLevelMask v ((Ev.of s).upd State.portFree) =
    loadOn (Ev.of { s.portFree with loader := { s.loader with maskRead := v } }) := if_pos rfl

/-- R154: after the last address word the mask is validated, as a write from an all-clear mask. -/
theorem loadWord_lastAddr (v : Word) (s : State) : loadWord 0x020 v ((Ev.of s).upd State.portFree) =
    let m := validLevelMask (s.store 0x020 v) 0 s.loader.maskRead
    writeBackOr offLevelMask s.loader.maskRead m (Ev.of ((s.portFree.store 0x020 v).store offLevelMask m)) := rfl

/-- R154: any other word is validated and stored as it is read. -/
theorem loadWord_plain {off : Nat} (hmask : off ≠ offLevelMask) (haddr : off ≠ 0x020) (v : Word) (s : State) :
    loadWord off v ((Ev.of s).upd State.portFree) =
      writeBackOr off v (loadValue off v) (Ev.of (s.portFree.store off (loadValue off v))) := by
  rw [loadWord, if_neg hmask]
  exact if_neg haddr

theorem exec_tableRead {s : State} {off : Nat} {a : Word} {k : AccessKind} (hl : s.loading = true)
    (hp : s.port.inFlight = some ⟨.tableRead off, a, k⟩) (v : Word) :
    exec (.tableLoadReadCompletion v) s = .next (conclude s (loadWord off v ((Ev.of s).upd State.portFree))) := by
  simp only [exec, execTableLoadReadCompletion, hp, hl, whenever_true]

theorem exec_writeBack {s : State} {off : Nat} {a : Word} {k : AccessKind} (hl : s.loading = true)
    (hp : s.port.inFlight = some ⟨.writeBack off, a, k⟩) :
    exec .writeBackCompletion s = .next (conclude s (loadOn (Ev.of s.portFree))) := by
  simp only [exec, execWriteBackCompletion, hp, hl, whenever_true]
  rfl

/-- The port once an access of the load has completed. -/
theorem portFree_port {s : State} {x : Access} (hp : s.port = ⟨some x, []⟩) : s.portFree.port = ⟨none, []⟩ := by
  rw [State.portFree_port, hp]

section Reads
variable {s : State} {a : Word} {k : AccessKind} (hl : s.loading = true)
include hl

/-- A word that validation changes is stored and written back. -/
theorem exec_tableRead_trims {off : Nat} (hp : s.port = ⟨some ⟨.tableRead off, a, k⟩, []⟩) (hmask : off ≠ offLevelMask)
    (haddr : off ≠ 0x020) {v : Word} (hv : loadValue off v ≠ v) :
    exec (.tableLoadReadCompletion v) s =
      .next (writesBack off (loadValue off v) (s.store off (loadValue off v))) := by
  rw [exec_tableRead hl (by rw [hp]), loadWord_plain hmask haddr]
  exact congrArg _ (conclude_writeBack (x := s.portFree.store off (loadValue off v)) rfl (loading_iff.mp hl).1
    (portFree_port hp) hv)

/-- A word that validation leaves is stored, and the load goes on. -/
theorem exec_tableRead_stores {off : Nat} (hp : s.port = ⟨some ⟨.tableRead off, a, k⟩, []⟩) (hmask : off ≠ offLevelMask)
    (haddr : off ≠ 0x020) {v : Word} (hv : loadValue off v = v) :
    exec (.tableLoadReadCompletion v) s = .next (conclude s (loadOn (Ev.of (s.portFree.store off v)))) := by
  rw [exec_tableRead hl (by rw [hp]), loadWord_plain hmask haddr, hv, writeBackOr_same]

theorem exec_tableRead_mask (hp : s.port = ⟨some ⟨.tableRead offLevelMask, a, k⟩, []⟩)
    (hnext : s.loader.next ≤ 0x121) (v : Word) :
    exec (.tableLoadReadCompletion v) s =
      .next (readNext { s with loader := { s.loader with maskRead := v } }) := by
  rw [exec_tableRead hl (by rw [hp]), loadWord_mask]
  exact congrArg _ (conclude_loadOn (x := { s.portFree with loader := { s.loader with maskRead := v } }) rfl
    (loading_iff.mp hl).1 (portFree_port hp) hnext)

end Reads

/-- The state after the read of the last level address: the address stored, and the validated mask `m`. -/
def maskLoaded (v m : Word) (s : State) : State := (s.store 0x020 v).store offLevelMask m

section LastAddr
variable {s : State} {a : Word} {k : AccessKind} (hl : s.loading = true)
  (hp : s.port = ⟨some ⟨.tableRead 0x020, a, k⟩, []⟩) {v m : Word}
  (hm : validLevelMask (s.store 0x020 v) 0 s.loader.maskRead = m)
include hl hp hm

theorem exec_tableRead_lastAddr : exec (.tableLoadReadCompletion v) s = .next (conclude s
    (writeBackOr offLevelMask s.loader.maskRead m (Ev.of (maskLoaded v m s.portFree)))) := by
  rw [exec_tableRead hl (by rw [hp]), loadWord_lastAddr, ← hm]
  rfl

theorem exec_tableRead_lastAddr_trims (hne : m ≠ s.loader.maskRead) :
    exec (.tableLoadReadCompletion v) s = .next (writesBack offLevelMask m (maskLoaded v m s)) := by
  rw [exec_tableRead_lastAddr hl hp hm]
  exact congrArg _ (conclude_writeBack (x := maskLoaded v m s.portFree) rfl (loading_iff.mp hl).1
    (portFree_port hp) hne)

theorem exec_tableRead_lastAddr_stores (heq : m = s.loader.maskRead) (hnext : s.loader.next ≤ 0x121) :
    exec (.tableLoadReadCompletion v) s = .next (readNext (maskLoaded v m s)) := by
  rw [exec_tableRead_lastAddr hl hp hm, ← heq, writeBackOr_same]
  exact congrArg _ (conclude_loadOn (x := maskLoaded v m s.portFree) rfl (loading_iff.mp hl).1
    (portFree_port hp) hnext)

end LastAddr

/-- Settles O5: the release and each completion by the word it read. -/
theorem tableLoadGoesWordByWord : Obligations.TableLoadGoesWordByWord := by
  refine ⟨fun straps s hr hp => ?_, fun s v off a k hr hl hp hmask haddr => ?_, fun s v a k hr hl hnext => ?_,
    fun s off a k hr hl hp hnext => ?_⟩
  · have hread := settle_issueRead (s := { s with
        resetHeld := false, straps := straps, loader := { s.loader with phase := .running, next := 1 } }) rfl hp
    refine (whenever_eq ..).trans (congrArg _ ?_)
    rw [if_pos hr]
    exact (conclude_of_ceil rfl rfl).trans hread
  · have hload := loading_iff.mpr ⟨hr, hl⟩
    refine ⟨exec_tableRead_trims hload hp hmask haddr, fun heq hnext => ?_⟩
    rw [exec_tableRead_stores hload hp hmask haddr heq]
    exact congrArg _ (conclude_loadOn (x := s.portFree.store off v) rfl hr (portFree_port hp) hnext)
  · have hload := loading_iff.mpr ⟨hr, hl⟩
    exact ⟨fun hp => exec_tableRead_mask hload hp hnext v, fun hp =>
      ⟨exec_tableRead_lastAddr_trims hload hp rfl, fun heq => exec_tableRead_lastAddr_stores hload hp rfl heq hnext⟩⟩
  · have hload := loading_iff.mpr ⟨hr, hl⟩
    rw [exec_writeBack hload (by rw [hp])]
    exact congrArg _ (conclude_loadOn (x := s.portFree) rfl hr (portFree_port hp) hnext)

end Sys2Proof.Machine
end

section
namespace Sys2Proof.Machine

open Sys2Proof Sys2Proof.Config

/-! ## Load completion (R155) -/

/-- The arc sources as load completion starts them (R80). -/
def startedSources (x : State) : Vector Source 5 := (startArc (startImage (prestarted x))).arc.sources

/-- What the blocks' starts make of a state, block by block. -/
theorem started_eq (x : State) : started x = { x with
    loader := { x.loader with phase := .complete }
    meas := (prestarted x).meas, mods := (prestarted x).mods, ceil := (prestarted x).ceil
    image := (startImage (prestarted x)).image, port := (startImage (prestarted x)).port
    arc := { x.arc with sources := startedSources x }
    checker := (startChecker x).checker, pub := (startPublication x).pub } := by
  have harc := startArc_only (startImage (prestarted x))
  have himage := startImage_only (prestarted x)
  unfold sourcesOnly at harc
  unfold imageOnly at himage
  unfold started startedSources
  rw [harc, himage]
  rfl

/-- The event of load completion before the ceilings are computed: every block's start, the RESET record and the
controller's transition. -/
def starts (x : State) : Ev :=
  transition .standby .loadComplete ((Ev.of (started x)).draft (resetDraft (started x).resetKind))

theorem loadComplete_of (x : State) : loadComplete (Ev.of x) = (starts x).upd recompute := rfl

/-- The transition from START leaves E_sys and the mute settle timer (R50, R88, R100). -/
theorem starts_st {x : State} (hst : x.ctl.state = .start) : (starts x).st = { started x with
    ctl := { x.ctl with state := .standby, inhibit := true } } := by
  have hctl : (started x).ctl = x.ctl := by rw [started_eq]
  show enterState .standby (started x) = _
  simp [enterState, hctl, hst, CtlState.running]

/-- What load completion leaves. -/
def completed (x : State) : State := submitAll (starts x).out (recompute (starts x).st)

/-- A new mask issues capture reads and leaves the access in flight. -/
theorem applyLevelMask_inFlight (old new : Word) (s : State) :
    (applyLevelMask old new s).port.inFlight = s.port.inFlight := by
  rw [applyLevelMask_eq, scan_keeps (f := createRecord) (fun x => x.port.inFlight) fun _ _ => rfl,
    disableEntries_port]

section Completed
variable {x : State} (hx : resting x)
include hx

theorem resting.start : x.ctl.state = .start := by
  obtain ⟨-, -, -, -, -, -, -, hctl, -⟩ := hx
  rw [hctl]
  rfl

/-- Every effective ceiling stays at 0, so the drive image has nothing to follow. -/
theorem completed_governing (i : Fin 9) : governing (recompute (starts x).st).ceil i = 0 := by
  have hmod : (starts x).st.ceil.eMod = Vector.replicate 8 0 := by
    rw [starts_st hx.start, started_eq]; rfl
  have hstate : (starts x).st.ctl.state = .standby := rfl
  unfold governing
  split
  · simp [recompute, hstate, CtlState.running]
  · simp only [recompute, Vector.getElem?_ofFn, hmod]
    split <;> simp

/-- The drive image's start: a record in CAPTURING and a capture read for each enabled entry (R62). -/
theorem started_records (hp : x.port = ⟨none, []⟩) :
    (∀ i : Fin 9, (startImage (prestarted x)).image.recs[i] =
      if bit (x.word offLevelMask) i.val = true then some (newRecord (x.levelAddr i)) else none) ∧
    (startImage (prestarted x)).image.queue = [] ∧
    (startImage (prestarted x)).port = ⟨none, ((List.finRange 9).filter fun i =>
      bit (x.word offLevelMask) i.val).map fun i => .capture i (x.levelAddr i)⟩ := by
  obtain ⟨-, -, -, -, -, himage, -⟩ := hx
  have hzero (i : Fin 9) : bit 0 i.val = false := by simp [bit]
  have hset : onlyIn (x.word offLevelMask) 0 = fun i : Fin 9 => bit (x.word offLevelMask) i.val := by
    funext i; simp only [onlyIn, hzero, Bool.not_false, Bool.and_true]
  have hclear (i : Fin 9) : onlyIn 0 (x.word offLevelMask) i = false := by
    simp only [onlyIn, hzero, Bool.false_and]
  have hreset : (prestarted x).image = Image.reset := himage
  obtain ⟨hqueue, hissued⟩ := applyLevelMask_work 0 (x.word offLevelMask) (s := prestarted x) (by rw [hreset]; rfl)
  refine ⟨fun i => ?_, hqueue, ?_⟩
  · refine (applyLevelMask_recs 0 (x.word offLevelMask) (prestarted x) i).trans ?_
    have hnone : (prestarted x).image.recs[i] = none := by rw [hreset]; simp [Image.reset]
    rw [hset, hclear, hnone]
    rfl
  · have hport : (prestarted x).port = ⟨none, []⟩ := hp
    have hflight : (startImage (prestarted x)).port.inFlight = none :=
      (applyLevelMask_inFlight 0 (x.word offLevelMask) (prestarted x)).trans (congrArg Port.inFlight hport)
    rw [hset, hport, List.nil_append] at hissued
    exact congrArg₂ Port.mk hflight hissued

/-- Class 1 holds capture reads alone, and a capture read is granted by its own command (R62, R133). -/
theorem completed_settled (hp : x.port = ⟨none, []⟩) : settled (completed x) := by
  obtain ⟨-, -, hport⟩ := started_records hx hp
  have hport' : (completed x).port = (startImage (prestarted x)).port := by
    show (starts x).st.port = _
    rw [starts_st hx.start, started_eq]
  have hserving : (completed x).link.state ≠ .serving ∧ (completed x).stepped = none := by
    obtain ⟨-, -, -, -, -, -, -, -, hstepped, -, hlink⟩ := hx
    have hkept : (started x).link = x.link ∧ (started x).stepped = x.stepped := by
      rw [started_eq]; exact ⟨rfl, rfl⟩
    exact ⟨hkept.1 ▸ hlink, hkept.2.trans hstepped⟩
  refine settled_iff.mpr fun _ _ =>
    ⟨fun off rest hc => ?_, fun off v rest hc => ?_, fun _ _ => ⟨fun p hs => ?_, fun _ => ?_⟩⟩
  · rw [hport', hport] at hc
    obtain ⟨i, -, -, hi, -⟩ := List.map_eq_cons_iff.mp hc
    cases hi
  · rw [hport', hport] at hc
    obtain ⟨i, -, -, hi, -⟩ := List.map_eq_cons_iff.mp hc
    cases hi
  · rw [hserving.2] at hs; cases hs
  · exact readOffered_of_state hserving.1

theorem conclude_loadComplete {s : State} (hs : s.ceil = Ceilings.reset) (hp : x.port = ⟨none, []⟩) :
    conclude s (loadComplete (Ev.of x)) = completed x := by
  have hsame (i : Fin 9) : governing s.ceil i = governing ((starts x).upd recompute).st.ceil i := by
    refine Eq.trans ?_ (completed_governing hx i).symm
    rw [hs]
    unfold governing
    split
    · rfl
    · simp only [Ceilings.reset, Vector.getElem?_replicate]
      split <;> rfl
  rw [loadComplete_of, conclude_eq, imageReact_same hsame]
  exact completed_settled hx hp

end Completed

/-! ### What each block holds at load completion -/

/-- R80: source `i`'s start, if it is enabled. -/
def startSource (s : State) (i : Fin 5) : State :=
  if srcEnable (s.sourceWord i) then startDebouncer i (setSource i (fun x => { x with state := .untested }) s) else s

theorem startSource_of {s : State} {i : Fin 5} (he : srcEnable (s.sourceWord i) = true) :
    startSource s i = setSource i (fun _ => ⟨.untested, s.inputLevel i, none⟩) s := by
  rw [startSource, if_pos he]
  simp only [startDebouncer, setSource, upd_upd]
  rfl

theorem startSource_sources (s : State) (i j : Fin 5) : (startSource s i).arc.sources[j] =
    if j = i ∧ srcEnable (s.sourceWord j) = true then ⟨.untested, s.inputLevel j, none⟩ else s.arc.sources[j] := by
  by_cases he : srcEnable (s.sourceWord i) = true
  · rw [startSource_of he]
    by_cases hj : j = i
    · subst hj
      rw [setSource_self, if_pos ⟨rfl, he⟩]
    · rw [if_neg fun h => hj h.1]
      exact Vector.getElem_set_ne i.isLt j.isLt fun h => hj (Fin.ext h.symm)
  · rw [startSource, if_neg he, if_neg]
    rintro ⟨rfl, h⟩
    exact he h

/-- The starts of several sources, which see the words and the inputs of the state `s` they began with. -/
theorem foldl_startSource_sources {s x : State} (hx : sourcesOnly s x) (l : List (Fin 5)) (j : Fin 5) :
    (l.foldl startSource x).arc.sources[j] = if j ∈ l ∧ srcEnable (s.sourceWord j) = true
      then ⟨.untested, s.inputLevel j, none⟩ else x.arc.sources[j] := by
  induction l generalizing x with
  | nil => simp
  | cons i l ih =>
    have hstart : sourcesOnly x (startSource x i) := by unfold startSource; split <;> rfl
    have hword : x.sourceWord j = s.sourceWord j := by rw [hx]; rfl
    have hlevel : x.inputLevel j = s.inputLevel j := by rw [hx]; rfl
    rw [List.foldl_cons, ih (hx.trans hstart), startSource_sources, hword, hlevel]
    by_cases he : srcEnable (s.sourceWord j) = true
    · by_cases hj : j ∈ l <;> simp [he, hj]
    · simp [he]

theorem getElem_startedSources (x : State) (j : Fin 5) : (startedSources x)[j] =
    if srcEnable (x.sourceWord j) = true then ⟨.untested, x.inputLevel j, none⟩ else x.arc.sources[j] := by
  have himage := startImage_only (prestarted x)
  have hfold := foldl_startSource_sources (s := startImage (prestarted x)) (x := startImage (prestarted x)) rfl
    (List.finRange 5) j
  have hword : (startImage (prestarted x)).sourceWord j = x.sourceWord j := by rw [himage]; rfl
  have hlevel : (startImage (prestarted x)).inputLevel j = x.inputLevel j := by rw [himage]; rfl
  have hsources : (startImage (prestarted x)).arc.sources[j] = x.arc.sources[j] := by rw [himage]; rfl
  rw [hword, hlevel, hsources] at hfold
  simp only [List.mem_finRange, true_and] at hfold
  exact hfold

/-- Where every module is ON or ABSENT, as many are ON as are present. -/
theorem recount_nOn_eq {m : Modules} (h : ∀ n : Fin 8, (m.mods[n]).state = .on ∨ (m.mods[n]).state = .absent) :
    (recount m).nOn = (recount m).nPresent := by
  rw [recount_nOn, recount_nPresent]
  refine List.countP_congr fun y hy => ?_
  obtain ⟨i, hi, rfl⟩ := Vector.mem_iff_getElem.mp (Vector.mem_toList_iff.mp hy)
  rcases h ⟨i, hi⟩ with hst | hst <;> simp only [Fin.getElem_fin] at hst <;> simp [hst]

/-- R36, R41: with a present module every count is full, and MODULES is clear. -/
theorem recount_full {m : Modules} (h : ∀ n : Fin 8, (m.mods[n]).state = .on ∨ (m.mods[n]).state = .absent)
    {n : Fin 8} (hn : (m.mods[n]).state = .on) :
    (recount m).nOn = (recount m).nPresent ∧ (recount m).fBal = 4096 ∧ (recount m).flag = false := by
  have heq := recount_nOn_eq h
  have hflag := recount_flag_of_on hn
  have hsome : (recount m).nOn ≠ 0 := fun hz => absurd ((recount_flag_iff m).mpr hz) (by simp [hflag])
  obtain ⟨-, -, hfull, -⟩ := balanceFactor_spec (recount_nOn_le m) (by omega) (recount_nPresent_le m)
  exact ⟨heq, hfull.mpr heq, hflag⟩

/-- A mask with a low bit names a module. -/
theorem exists_present {mask : Word} (h : mask &&& 0x00FF ≠ 0) : ∃ n : Fin 8, bit mask n.val = true := by
  by_contra hnone
  refine h (((low_eq_iff mask 0).mpr fun n => ?_).trans (by decide))
  have hclear : bit mask n.val = false := Bool.eq_false_of_not_eq_true fun hb => hnone ⟨n, hb⟩
  have hzero : bit 0 n.val = false := by simp [bit]
  rw [maskChanged, hclear, hzero]
  rfl

/-- R162: a record submitted while there is room and the ring is not full. -/
theorem submit_of_room {w : Word} {p : Publication} (hlen : p.fifo.length < 8) (hring : ringFull w p = false)
    (r : Record) : submit w r p = { p with fifo := p.fifo ++ [r] } := by
  have hring' : ringFull w { p with fifo := p.fifo ++ [r] } = false := hring
  rw [submit, if_pos hlen, ringTest, hring', Bool.and_false, if_neg Bool.false_ne_true]

/-- Two records of one event, submitted to an empty FIFO. -/
theorem submit_two {w : Word} {p : Publication} (hempty : p.fifo = []) (hring : ringFull w p = false)
    (r r' : Record) : submit w r' (submit w r p) = { p with fifo := [r, r'] } := by
  have hfirst := submit_of_room (p := p) (by simp [hempty]) hring r
  have hsecond := submit_of_room (p := { p with fifo := p.fifo ++ [r] }) (by simp [hempty]) hring r'
  rw [hfirst, hsecond, hempty]
  rfl

/-- R158: with the write index at the consumed index the ring is empty. -/
theorem ringFull_of_empty {w : Word} {p : Publication} (h : p.writeIndex = Fin.ofNat 32 w.toNat) :
    ringFull w p = false := by
  have hnext : ∀ k : Fin 32, (k + 1 == k) = false := by decide
  rw [ringFull, h]
  exact hnext _

section Completed
variable {x : State} (hx : resting x)
include hx

/-- What load completion leaves of the blocks, but for the records and the ceilings. -/
theorem completed_eq : completed x = { x with
    loader := { x.loader with phase := .complete }
    meas := (prestarted x).meas, mods := (prestarted x).mods, ceil := (completed x).ceil
    image := (startImage (prestarted x)).image, port := (startImage (prestarted x)).port
    arc := { x.arc with sources := startedSources x }
    ctl := { x.ctl with state := .standby, inhibit := true }
    checker := (startChecker x).checker, pub := (completed x).pub } := by
  have hrest : completed x = { (starts x).st with ceil := (completed x).ceil, pub := (completed x).pub } := rfl
  rw [starts_st hx.start, started_eq] at hrest
  exact hrest

/-- R26: every enabled channel starts unseeded; the others stay at rest. -/
theorem completed_chans (i : Fin 25) : (completed x).meas.chans[i] = if (x.chanCfg i).enable = true
    then ⟨0, 0, true, 0, 0, false, false, 4096, .normal⟩
    else ⟨0, 0, false, 0, 0, false, false, 4096, .disabled⟩ := by
  have hstart : (completed x).meas = (prestarted x).meas := by rw [completed_eq hx]
  obtain ⟨-, hmeas, -⟩ := hx
  have hchan : x.meas.chans[i] = Channel.reset := by rw [hmeas]; simp [Measurement.reset]
  have hget : (prestarted x).meas.chans[i] =
      if (x.chanCfg i).enable = true then startChannel (x.meas.chans[i]) else x.meas.chans[i] :=
    Vector.getElem_ofFn i.isLt
  rw [hstart, hget, hchan]
  rfl

/-- R36: the modules the present mask names are ON. -/
theorem completed_mods (n : Fin 8) : (completed x).mods.mods[n] =
    ⟨if bit (x.word offPresentMask) n.val = true then .on else .absent, none⟩ := by
  have hstart : (completed x).mods = (prestarted x).mods := by rw [completed_eq hx]
  rw [hstart]
  exact Vector.getElem_ofFn n.isLt

/-- R36, R41: with a present module none is missing from the balance. -/
theorem completed_balance (hmask : x.word offPresentMask &&& 0x00FF ≠ 0) :
    (completed x).mods.nOn = (completed x).mods.nPresent ∧ (completed x).mods.fBal = 4096 ∧
      (completed x).mods.flag = false := by
  have hrecount : recount (completed x).mods = (completed x).mods := by rw [completed_eq hx]; rfl
  obtain ⟨n, hn⟩ := exists_present hmask
  rw [← hrecount]
  refine recount_full (fun n => ?_) (n := n) ?_
  · rw [completed_mods hx]
    split
    · exact .inl rfl
    · exact .inr rfl
  · rw [completed_mods hx, if_pos hn]

/-- R44, R53: the ceilings are made of their inputs, and the ramp timer starts. -/
theorem completed_ceil : ceilingsFollow 0 (Vector.replicate 8 0) (completed x) ∧
    (completed x).ceil.ramp = some (x.param offRampInterval) ∧
    (completed x).ceil.fallbackMark = true ∧ (completed x).ceil.unprovenMark = false := by
  have hfollow := ungranted_ceilingsFollow (recompute (starts x).st) (starts x)
  have hceil : (starts x).st.ceil = (prestarted x).ceil := by rw [starts_st hx.start, started_eq]
  have hmarks : marksKept (starts x).st (completed x) := ⟨rfl, rfl, rfl⟩
  obtain ⟨hramp, hfallback, hunproven⟩ := hmarks
  obtain ⟨-, -, -, -, hreset, -⟩ := hx
  have hstart : (prestarted x).ceil =
      { x.ceil with ramp := some (x.param offRampInterval), eMod := Vector.replicate 8 0 } := rfl
  rw [ungranted, imageReact_self, hceil, hstart, hreset] at hfollow
  rw [hramp, hfallback, hunproven, hceil, hstart, hreset]
  exact ⟨hfollow, rfl, rfl, rfl⟩

/-- R80: every enabled source starts UNTESTED at its input's level; the others stay DISABLED. -/
theorem completed_sources (i : Fin 5) : (completed x).arc.sources[i] =
    if srcEnable (x.sourceWord i) = true then ⟨.untested, x.inputLevel i, none⟩ else ⟨.disabled, false, none⟩ := by
  have hstart : (completed x).arc.sources = startedSources x := by rw [completed_eq hx]
  obtain ⟨-, -, -, -, -, -, harc, -⟩ := hx
  have hrest : x.arc.sources[i] = ⟨.disabled, false, none⟩ := by rw [harc]; simp [Arc.reset]
  rw [hstart, getElem_startedSources, hrest]

/-- R25, R79, R156: what starts at rest, and the first sweep. -/
theorem completed_rest : (completed x).meas.pulses = 0 ∧ (completed x).arc.proof = none ∧
    (completed x).arc.settle = none ∧ (completed x).checker = ⟨.unchecked, .running 0x003 0xFFFF, some 1000⟩ := by
  have hstart : (completed x).meas = (prestarted x).meas ∧ (completed x).arc.proof = x.arc.proof ∧
      (completed x).arc.settle = x.arc.settle ∧ (completed x).checker = (startChecker x).checker := by
    rw [completed_eq hx]; exact ⟨rfl, rfl, rfl, rfl⟩
  obtain ⟨hmeas', hproof, hsettle, hchecker'⟩ := hstart
  obtain ⟨hchecker, hmeas, -, -, -, -, harc, -⟩ := hx
  have hpulses : (prestarted x).meas.pulses = x.meas.pulses := by
    simp only [prestarted, startRamp, startModules, startMeasurement, startGate]
  have hzero : x.meas.pulses = 0 := by rw [hmeas, Measurement.reset]
  refine ⟨?_, ?_, ?_, ?_⟩
  · rw [hmeas', hpulses, hzero]
  · rw [hproof, harc]; rfl
  · rw [hsettle, harc]; rfl
  · rw [hchecker', startChecker, hchecker]; rfl

/-- R155, R158: the RESET record stands before the controller's. -/
theorem completed_pub : (completed x).pub = { Publication.reset with
    timer := some 100
    writeIndex := Fin.ofNat 32 (x.param offConsumed)
    fifo := [⟨⟨.reset, if x.resetKind = .powerOn then 1 else 2, 0, 0⟩, x.ms, .standby⟩,
      ⟨⟨.state, 0, 1, 1⟩, x.ms, .standby⟩] } := by
  have hout : (starts x).out = [resetDraft x.resetKind, stateDraft .start .standby .loadComplete] := by
    show [resetDraft (started x).resetKind, stateDraft (started x).ctl.state .standby .loadComplete] = _
    rw [started_eq]
    exact congrArg (fun st => [_, stateDraft st .standby .loadComplete]) hx.start
  have hpub : (recompute (starts x).st).pub = (startPublication x).pub := by
    show (starts x).st.pub = _
    rw [starts_st hx.start, started_eq]
  have hms : (recompute (starts x).st).ms = x.ms := by
    show (starts x).st.ms = _
    rw [starts_st hx.start, started_eq]
  have hword : (recompute (starts x).st).word offConsumed = x.word offConsumed :=
    word_congr (by show (starts x).st.shadow = _; rw [starts_st hx.start, started_eq]) _
  have hsubmits : (completed x).pub = submit (x.word offConsumed)
      ⟨stateDraft .start .standby .loadComplete, x.ms, .standby⟩
      (submit (x.word offConsumed) ⟨resetDraft x.resetKind, x.ms, .standby⟩ (startPublication x).pub) := by
    rw [completed, hout, submitAll, hpub, hms, hword]
    rfl
  obtain ⟨-, -, -, -, -, -, -, -, -, hreset, -⟩ := hx
  have hempty : (startPublication x).pub.fifo = [] := congrArg Publication.fifo hreset
  rw [hsubmits, submit_two hempty (ringFull_of_empty rfl), startPublication, hreset]
  rfl

end Completed

/-- The event of load completion, by either command: the last read with nothing to write back, or the write-back
after it. -/
theorem exec_lastAccess {c : Instr} {s u : State} {a : Word} {k : AccessKind} (hl : s.loading = true)
    (hnext : s.loader.next = 0x122)
    (hc : (∃ v, c = .tableLoadReadCompletion v ∧ s.port = ⟨some ⟨.tableRead 0x121, a, k⟩, []⟩ ∧
        loadValue 0x121 v = v ∧ u = s.store 0x121 v) ∨
      (∃ off, c = .writeBackCompletion ∧ s.port = ⟨some ⟨.writeBack off, a, k⟩, []⟩ ∧ u = s)) :
    exec c s = .next (conclude s (loadComplete (Ev.of { u with port := ⟨none, []⟩ }))) := by
  have hends (x : State) (hx : x.loader.next = 0x122) : loadOn (Ev.of x) = loadComplete (Ev.of x) :=
    if_pos (by rw [Ev.of_st, hx]; decide)
  rcases hc with ⟨v, rfl, hp, hv, rfl⟩ | ⟨off, rfl, hp, rfl⟩
  · rw [exec_tableRead_stores hl hp (by decide) (by decide) hv, hends (s.portFree.store 0x121 v) hnext]
    simp only [State.portFree, State.store, hp]
  · rw [exec_writeBack hl (by rw [hp]), hends u.portFree hnext]
    simp only [State.portFree, hp]

/-- Settles O7: each block by its start. -/
theorem loadCompletionStartsEveryBlock : Obligations.LoadCompletionStartsEveryBlock := by
  intro c s u a k hstart hr hl hnext hc hmask
  have hrest : resting s := hstart.2 (by simp [State.loaded, hl])
  have hu : u = { s with shadow := u.shadow } := by
    rcases hc with ⟨v, -, -, -, rfl⟩ | ⟨off, -, -, rfl⟩ <;> rfl
  have hx : resting { u with port := ⟨none, []⟩ } := by rw [hu]; exact hrest
  have hs : s.ceil = Ceilings.reset := by obtain ⟨-, -, -, -, hceil, -⟩ := hrest; exact hceil
  have hexec := exec_lastAccess (loading_iff.mpr ⟨hr, hl⟩) hnext hc
  rw [conclude_loadComplete hx hs rfl] at hexec
  have heq := completed_eq hx
  obtain ⟨hrecs, hqueue, hport⟩ := started_records hx rfl
  obtain ⟨hon, hbal, hflag⟩ := completed_balance hx hmask
  obtain ⟨hfollow, hramp, hfallback, hunproven⟩ := completed_ceil hx
  have hpub := completed_pub hx
  obtain ⟨hpulses, hproof, hsettle, hchecker⟩ := completed_rest hx
  refine ⟨_, hexec, by rw [heq], by rw [heq], completed_chans hx, hpulses, by rw [heq]; rfl, by rw [heq, hu],
    completed_mods hx, hon, hbal, hflag, hfollow, hramp, hfallback, hunproven, fun i => ?_, by rw [heq]; exact hqueue,
    by rw [heq]; exact hport, fun i => ?_, hproof, hsettle, by rw [heq, hu], hchecker, by rw [hpub], by rw [hpub]; rfl,
    by rw [hpub, hu], by rw [hpub]; rfl, by rw [hpub]; rfl, ?_⟩
  case refine_1 => rw [heq]; exact hrecs i
  case refine_2 =>
    rw [completed_sources hx i]
    by_cases he : srcEnable (u.sourceWord i) = true
    · rw [if_pos he, if_pos (show srcEnable (State.sourceWord { u with port := ⟨none, []⟩ } i) = true from he)]
      exact ⟨rfl, rfl, rfl⟩
    · rw [if_neg he, if_neg (show ¬ srcEnable (State.sourceWord { u with port := ⟨none, []⟩ } i) = true from he)]
      exact ⟨rfl, rfl⟩
  case refine_3 =>
    rw [heq, hu]
    refine ⟨rfl, fun b hb => ?_⟩
    cases b <;> simp at hb <;> simp [sameBlock]

end Sys2Proof.Machine
end

section
namespace Sys2Proof.Machine

open Sys2Proof Sys2Proof.Config

/-! ## A sweep's verdict (R46, R156, R157) -/

/-- The covered words from `position` on, counted from it. -/
theorem covered_eq (s : State) (position : Nat) :
    s.covered position = (List.range (0x122 - position)).map fun i => s.word (position + i) := by
  show (List.range' position (0x122 - position)).map s.word = _
  rw [List.range'_eq_map_range, List.map_map]
  rfl

/-- The sweep that ran has come to its end. -/
def swept (s : State) : State := { s with checker := { s.checker with sweep := .idle } }

/-- A verdict that has changed: it stands, with the fallback mark it makes. -/
def rejudged (v : Verdict) (s : State) : State :=
  { swept s with
    checker := { s.checker with verdict := v, sweep := .idle }
    ceil := { s.ceil with fallbackMark := v != .agree } }

/-- What a sweep's completion leaves before the arbiter's grants. -/
def verdictGiven (v : Verdict) (computed : Word) (s : State) : State :=
  concluded s (changeVerdict v computed (Ev.of (swept s)))

theorem exec_sweepCompletion {s : State} {position : Nat} {check : Word} (hr : s.resetHeld = false)
    (hs : s.checker.sweep = .running position check) :
    let computed := crcFrom check (s.covered position)
    exec .sweepCompletion s = .next (settle (verdictGiven (verdictOf computed (s.word offReference)) computed s)) := by
  show execSweepCompletion s = _
  simp only [execSweepCompletion, hs]
  exact whenever_of (by rw [hr]; rfl)

section Verdict
variable {s : State} {v : Verdict} {computed : Word}

theorem verdictGiven_same (h : s.checker.verdict = v) : verdictGiven v computed s = swept s := by
  have hsame : changeVerdict v computed (Ev.of (swept s)) = Ev.of (swept s) := if_pos h
  rw [verdictGiven, hsame]
  exact imageReact_of_ceil (s := swept s) rfl

theorem verdictGiven_kept (h : s.checker.verdict = v) :
    (verdictGiven v computed s).ceil = s.ceil ∧ (verdictGiven v computed s).pub = s.pub := by
  rw [verdictGiven_same h]
  exact ⟨rfl, rfl⟩

theorem verdictGiven_changed (h : s.checker.verdict ≠ v) :
    verdictGiven v computed s = ungranted s ⟨rejudged v s, [⟨.verdict, 0, v.code, computed⟩]⟩ := by
  have hchanged : changeVerdict v computed (Ev.of (swept s)) =
      ⟨recompute (rejudged v s), [⟨.verdict, 0, v.code, computed⟩]⟩ := if_neg h
  rw [verdictGiven, hchanged]
  rfl

theorem verdictGiven_checker :
    (verdictGiven v computed s).checker = { s.checker with verdict := v, sweep := .idle } := by
  by_cases h : s.checker.verdict = v
  · rw [verdictGiven_same h, ← h]; rfl
  · rw [verdictGiven_changed h]; rfl

/-- The blocks a verdict concerns. -/
theorem verdictGiven_frame : imageFollows s (verdictGiven v computed s) ∧
    changesOnly [.checker, .ceil, .image, .pub] s (verdictGiven v computed s) := by
  by_cases h : s.checker.verdict = v
  · rw [verdictGiven_same h]
    refine ⟨congrArg State.image (imageReact_self (swept s)).symm, rfl, fun b hb => ?_⟩
    cases b <;> simp at hb <;> simp [sameBlock, swept]
  · rw [verdictGiven_changed h]
    refine ⟨imageFollows_concluded rfl, rfl, fun b hb => ?_⟩
    cases b <;> simp at hb <;> simp [sameBlock, ungranted, rejudged, swept]

/-- A change of verdict sets or clears the fallback mark, makes the ceilings again, and is reported. -/
theorem verdictGiven_judged (h : s.checker.verdict ≠ v) :
    let t := verdictGiven v computed s
    t.ceil.fallbackMark = decide (v ≠ .agree) ∧ t.ceil.unprovenMark = s.ceil.unprovenMark ∧
      t.ceil.ramp = s.ceil.ramp ∧ ceilingsFollow s.ceil.eSys s.ceil.eMod t ∧
      submitted [⟨.verdict, 0, v.code, computed⟩] s t := by
  have hmark : (v != .agree) = decide (v ≠ .agree) := by cases v <;> rfl
  rw [verdictGiven_changed h, ← hmark]
  exact ⟨rfl, rfl, rfl, ungranted_ceilingsFollow s ⟨rejudged v s, _⟩, submitted_concluded rfl rfl⟩

end Verdict

/-- Settles O47: the verdict stands or changes. -/
theorem sweepsJudgeTheTable : Obligations.SweepsJudgeTheTable := by
  intro s position check hr hs
  have hexec := exec_sweepCompletion hr hs
  rw [covered_eq] at hexec
  refine ⟨_, _, hexec, rfl, ?_, ?_⟩
  · rintro rfl rfl
    rfl
  · intro v
    refine ⟨verdictGiven_checker, fun h => ?_, fun h => ?_, verdictGiven_frame⟩
    · exact verdictGiven_kept h
    · exact verdictGiven_judged h

end Sys2Proof.Machine
end

section
namespace Sys2Proof.Machine

open Sys2Proof Sys2Proof.Config

/-! ## The consumed index (R153, R163, R164) -/

/-- Steps round the ring of 32, counted from `last`. -/
theorem ring_sub_val (last x : Fin 32) : (x - last).val = (x.val + 32 - last.val) % 32 := by
  show (32 - last.val + x.val) % 32 = _
  congr 1
  omega

/-- R153: which consumed indices are taken. -/
theorem consumedTaken_iff {stored v : Word} {p : Fin 32} : consumedTaken stored v p = true ↔
    v.toNat ≤ 31 ∧ (v.toNat + 32 - stored.toNat % 32) % 32 ≤ (p.val + 32 - stored.toNat % 32) % 32 := by
  rw [consumedTaken, Bool.and_eq_true, decide_eq_true_iff, decide_eq_true_iff, ring_sub_val, ring_sub_val]
  simp only [Fin.val_ofNat]
  constructor
  · rintro ⟨hv, h⟩
    rw [Nat.mod_eq_of_lt hv] at h
    exact ⟨by omega, h⟩
  · rintro ⟨hv, h⟩
    exact ⟨by omega, by rwa [Nat.mod_eq_of_lt (by omega : v.toNat < 32)]⟩

/-- The write index stands at an index within the ring. -/
theorem eq_ofNat_iff {p : Fin 32} {n : Nat} (hn : n ≤ 31) : p = Fin.ofNat 32 n ↔ p.val = n := by
  rw [Fin.ext_iff, Fin.val_ofNat, Nat.mod_eq_of_lt (by omega)]

/-- R163: the ring is full when one slot is left free before the consumed index. -/
theorem ringFull_iff {v : Word} {p : Publication} (hv : v.toNat ≤ 31) :
    ringFull v p = true ↔ (p.writeIndex.val + 1) % 32 = v.toNat := by
  rw [ringFull, beq_iff_eq, eq_ofNat_iff hv, Fin.val_add]
  rfl

/-- R163, R164: what a taken consumed index does. -/
theorem consumedWritten_eq {v : Word} (hv : v.toNat ≤ 31) (p : Publication) :
    let full := (p.writeIndex.val + 1) % 32 = v.toNat
    consumedWritten v p = { p with
      alert := p.alert && decide (p.writeIndex.val ≠ v.toNat)
      fifo := if p.current = none ∧ full then [] else p.fifo
      lost := if p.current = none ∧ full then min 65535 (p.lost + p.fifo.length) else p.lost } := by
  intro full
  have halert : (p.writeIndex != Fin.ofNat 32 v.toNat) = decide (p.writeIndex.val ≠ v.toNat) := by
    rw [bne, Bool.eq_iff_iff, Bool.not_eq_true', beq_eq_false_iff_ne, decide_eq_true_iff, Ne, eq_ofNat_iff hv]
  have htest : (p.current.isNone && ringFull v { p with alert := p.alert && decide (p.writeIndex.val ≠ v.toNat) }) =
      true ↔ p.current = none ∧ full := by
    rw [Bool.and_eq_true, Option.isNone_iff_eq_none, ringFull_iff hv]
  rw [consumedWritten, halert, ringTest]
  by_cases h : p.current = none ∧ full
  · rw [if_pos (htest.mpr h), if_pos h, if_pos h]
  · rw [if_neg (mt htest.mp h), if_neg h, if_neg h]

section Handoff
variable {s : State} {w : Word}

theorem treat_consumed_held (h : ¬consumedTaken (s.word offConsumed) w s.pub.writeIndex = true) :
    treat s .consumed w = (Ev.of s, .held) := by
  simp only [treat, State.judge, if_neg h, sweepAfter, if_true]

theorem treat_consumed_taken (h : consumedTaken (s.word offConsumed) w s.pub.writeIndex = true) :
    treat s .consumed w =
      (⟨{ s.store offConsumed w with pub := consumedWritten w s.pub }, []⟩, .forward w .hostWrite) := by
  simp only [treat, State.judge, if_pos h, Target.offset, sweepAfter, if_true]
  rfl

end Handoff

/-- Settles O48: the two dispositions, by what validation says. -/
theorem consumedIndexWrites : Obligations.ConsumedIndexWrites := by
  intro s a w hw htarget last ahead takes full
  have htakes : consumedTaken (s.word offConsumed) w s.pub.writeIndex = true ↔ takes := consumedTaken_iff
  refine ⟨takeHostWord s a w, handoffOf_of hw (by simp [isTarget, htarget]), fun hheld => ?_, fun htaken => ?_⟩
  · refine takeHostWord_heldBack hw ?_
    rw [htarget]
    exact treat_consumed_held (mt htakes.mp hheld)
  · have htreat := treat_consumed_taken (htakes.mpr htaken)
    rw [← htarget] at htreat
    have htake : takeHostWord s a w = ({ s.store offConsumed w with pub := consumedWritten w s.pub }.updLink
        fun l => l.outcome (outcomeOf w w)).begin .hostWrite a (.write w) := by
      rw [takeHostWord_forward htreat, submitAll_nil]
      exact imageReact_of_ceil rfl
    rw [htake]
    refine ⟨wordStored_congr (u := s.store offConsumed w) rfl (wordStored_store w (by decide) (by decide)),
      forwarded_of rfl rfl, consumedWritten_eq htaken.1 s.pub, rfl, fun b hb => ?_⟩
    cases b <;> simp at hb <;> simp [sameBlock]

end Sys2Proof.Machine
end

section
namespace Sys2Proof.Machine

open Sys2Proof Sys2Proof.Config

/-! ## Validation leaves a valid word as it is (R149, R154) -/

/-- A field of two words joined is the join of their fields. -/
theorem field_or (v w : Word) (lo n : Nat) : field (v ||| w) lo n = field v lo n ||| field w lo n := by
  unfold field
  rw [BitVec.toNat_or, ← Nat.shiftRight_eq_div_pow, ← Nat.shiftRight_eq_div_pow, ← Nat.shiftRight_eq_div_pow,
    Nat.shiftRight_or_distrib, Nat.or_mod_two_pow]

/-- A word cut to the bits of `mask`, with `given` put in when its field is 0. -/
def trimmedTo (mask given : Word) (lo n : Nat) (w : Word) : Word :=
  if field (w &&& mask) lo n = 0 then w &&& mask ||| given else w &&& mask

/-- What is put in lies within the mask and makes the field other than 0, so that a second pass changes nothing. -/
theorem trimmedTo_idem {mask given : Word} {lo n : Nat} (hin : given &&& mask = given) (hfield : field given lo n ≠ 0)
    (w : Word) : trimmedTo mask given lo n (trimmedTo mask given lo n w) = trimmedTo mask given lo n w := by
  have hcut : w &&& mask &&& mask = w &&& mask := by rw [BitVec.and_assoc, BitVec.and_self]
  by_cases h : field (w &&& mask) lo n = 0
  · have hput : field (w &&& mask ||| given) lo n ≠ 0 := by
      rw [field_or, h, Nat.zero_or]
      exact hfield
    rw [show trimmedTo mask given lo n w = w &&& mask ||| given from if_pos h, trimmedTo, BitVec.and_or_distrib_right,
      hcut, hin, if_neg hput]
  · rw [show trimmedTo mask given lo n w = w &&& mask from if_neg h, trimmedTo, hcut, if_neg h]

theorem validSource_idem (w : Word) : validSource (validSource w) = validSource w :=
  trimmedTo_idem (mask := 0x001F) (given := 0x0006) (lo := 1) (n := 2) (by decide) (by decide) w

theorem saturate_idem {lo hi : Nat} (hlo : lo ≤ hi) (hhi : hi ≤ 65535) (w : Word) :
    saturate lo hi (saturate lo hi w) = saturate lo hi w := by
  have hle : max lo (min hi w.toNat) ≤ hi := Nat.max_le.mpr ⟨hlo, Nat.min_le_left ..⟩
  rw [saturate_eq hlo hhi w, saturate_eq hlo hhi, word_toNat (hle.trans hhi), Nat.min_eq_right hle,
    Nat.max_eq_right (Nat.le_max_left ..)]

theorem validChannel_idem (k : Fin 8) (w : Word) :
    validChannel k.val (validChannel k.val w) = validChannel k.val w := by
  unfold validChannel
  split
  · exact trimmedTo_idem (mask := 0x01FF) (given := 0x0020) (lo := 5) (n := 4) (by decide) (by decide) w
  · exact saturate_idem (by decide) (by decide) w
  · exact saturate_idem (by decide) (by decide) w
  next hzero hsix hseven =>
    split
    next h => exact absurd h hzero
    next h => exact absurd h hsix
    next h => exact absurd h hseven
    next => rfl

theorem validGuardA_idem (w : Word) : validGuardA (validGuardA w) = validGuardA w := by
  rw [validGuardA, validGuardA, BitVec.and_assoc, BitVec.and_self]

theorem validStep_idem (w : Word) : validStep (validStep w) = validStep w := by
  unfold validStep
  split <;> rfl

/-- A range of words. -/
def properRange (p : Nat × Nat) : Prop := p.1 ≤ p.2 ∧ p.2 ≤ 65535

theorem properRange_ite {c : Prop} [Decidable c] {p q : Nat × Nat} (hp : properRange p) (hq : properRange q) :
    properRange (if c then p else q) := by
  split
  · exact hp
  · exact hq

/-- R150: every parameter's range is one of words. -/
theorem paramRange_proper (off : Nat) : properRange (paramRange off) := by
  unfold paramRange
  repeat refine properRange_ite ⟨by decide, by decide⟩ ?_
  exact ⟨by decide, by decide⟩

/-- A parameter taken is taken as it is. -/
theorem judgeParam_taken {off : Nat} {v w : Word} (h : judgeParam off w = .taken v) : judgeParam off v = .taken v := by
  obtain ⟨hlo, hhi⟩ := paramRange_proper off
  unfold judgeParam at h ⊢
  split at h
  next hpresent =>
    rw [if_pos hpresent]
    split at h
    · cases h
    next hsome =>
      obtain rfl := Judged.taken.inj h
      rw [BitVec.and_assoc, BitVec.and_self, if_neg hsome]
  next hpresent =>
    rw [if_neg hpresent]
    split at h <;> obtain rfl := Judged.taken.inj h
    next halert => rw [if_pos halert, BitVec.and_assoc, BitVec.and_self]
    next halert => rw [if_neg halert, saturate_idem hlo hhi]

/-- Of the parameters only the present mask can be HELD. -/
theorem judgeParam_held {off : Nat} {w : Word} (h : judgeParam off w = .held) : off = offPresentMask := by
  unfold judgeParam at h
  split at h
  next hpresent => exact hpresent
  next => split at h <;> cases h

theorem loadValue_taken {off : Nat} {v w : Word} (ht : configTarget off = .param off)
    (h : judgeParam off w = .taken v) : loadValue off w = v := by
  simp only [loadValue, ht, h]

/-- R154: the load's validation leaves its own values. -/
theorem loadValue_idem (off : Nat) (w : Word) : loadValue off (loadValue off w) = loadValue off w := by
  cases ht : configTarget off with
  | consumed =>
    simp only [loadValue, ht]
    split <;> rfl
  | param o =>
    obtain rfl : o = off := (configTarget_offset (congrArg Target.offset ht)).1.symm
    cases hj : judgeParam o w with
    | held =>
      obtain rfl := judgeParam_held hj
      simp only [loadValue, ht, hj]
      rfl
    | taken v => rw [loadValue_taken ht hj, loadValue_taken ht (judgeParam_taken hj)]
  | guardA => simp only [loadValue, ht, validGuardA_idem]
  | guardC => simp only [loadValue, ht, validStep_idem]
  | source => simp only [loadValue, ht, validSource_idem]
  | channel c k => simp only [loadValue, ht, validChannel_idem]
  | _ => simp only [loadValue, ht]

/-- A host word is taken with the value the load would make of it. -/
theorem judge_taken {s : State} {t : Target} {off : Nat} {v w : Word} (ht : configTarget off = t)
    (hmask : t ≠ .levelMask) (h : s.judge t w = .taken v) : loadValue off w = v := by
  cases t with
  | consumed =>
    simp only [State.judge] at h
    split at h
    next htaken =>
      obtain rfl := Judged.taken.inj h
      obtain ⟨hlow, -⟩ := consumedTaken_iff.mp htaken
      simp only [loadValue, ht]
      exact if_pos (by omega)
    next => cases h
  | param o =>
    obtain rfl : o = off := (configTarget_offset (congrArg Target.offset ht)).1.symm
    exact loadValue_taken ht h
  | levelMask => exact absurd rfl hmask
  | levelAddr | guardA | guardB | guardC =>
    simp only [State.judge] at h
    split at h
    · cases h
    · simp only [loadValue, ht]
      exact Judged.taken.inj h
  | _ =>
    simp only [loadValue, ht]
    exact Judged.taken.inj h

/-- R149: what a handoff stores is valid. -/
theorem loadValue_of_taken {s : State} {t : Target} {off : Nat} {v w : Word} (ht : configTarget off = t)
    (hmask : t ≠ .levelMask) (h : s.judge t w = .taken v) : loadValue off v = v := by
  rw [← judge_taken ht hmask h, loadValue_idem]

end Sys2Proof.Machine
end

section
namespace Sys2Proof.Machine

open Sys2Proof Sys2Proof.Config

/-! ## The enabled level entries stay apart (R65, R68) -/

/-- The entries a mask enables: each outside the control table, and no two of one address. -/
def entriesFree (s : State) (m : Word) : Prop :=
  ∀ i : Fin 9, bit m i.val = true → s.inTable (s.levelAddr i) = false ∧
    ∀ j : Fin 9, bit m j.val = true → s.levelAddr i = s.levelAddr j → i = j

theorem entriesApart_iff {s : State} : entriesApart s ↔
    s.word offLevelMask &&& 0x01FF = s.word offLevelMask ∧ entriesFree s (s.word offLevelMask) := Iff.rfl

/-- Fewer entries are apart the more. -/
theorem entriesFree.mono {s : State} {m m' : Word} (h : entriesFree s m)
    (hm : ∀ i : Fin 9, bit m' i.val = true → bit m i.val = true) : entriesFree s m' := fun i hi =>
  ⟨(h i (hm i hi)).1, fun j hj => (h i (hm i hi)).2 j (hm j hj)⟩

/-- An entry admitted beside entries that are apart is apart from them. -/
theorem examineEntry_entriesFree {s : State} {want old acc : Word} (h : entriesFree s acc) (k : Fin 9) :
    entriesFree s (examineEntry s want old acc k) := by
  intro i hi
  rcases bit_examineEntry.mp hi with hin | ⟨rfl, -, -, hout, hfree⟩
  · refine ⟨(h i hin).1, fun j hj heq => ?_⟩
    rcases bit_examineEntry.mp hj with hj | ⟨rfl, -, -, -, hfree⟩
    · exact (h i hin).2 j hj heq
    · exact absurd heq (hfree i hin)
  · refine ⟨hout, fun j hj heq => ?_⟩
    rcases bit_examineEntry.mp hj with hj | ⟨rfl, -⟩
    · exact absurd heq.symm (hfree j hj)
    · rfl

/-- R65: validation keeps the enabled entries apart. -/
theorem validLevelMask_entriesFree {s : State} {old : Word} (h : entriesFree s old) (w : Word) :
    entriesFree s (validLevelMask s old w) :=
  List.foldlRecOn (motive := entriesFree s) _ _ (h.mono fun i hi => ((bit_kept old w i).mp hi).1)
    fun _ hx k _ => examineEntry_entriesFree hx k

theorem entriesFree_zero (s : State) : entriesFree s 0 := fun i hi => by simp [bit] at hi

/-- The entries' places depend on their addresses and on the straps. -/
theorem entriesFree.congr {s t : State} {m : Word} (h : entriesFree s m) (hstraps : t.straps = s.straps)
    (haddr : ∀ i : Fin 9, bit m i.val = true → t.levelAddr i = s.levelAddr i) : entriesFree t m := by
  have htable (a : Word) : t.inTable a = s.inTable a := by
    rw [State.inTable, State.inTable, State.base, State.base, hstraps]
  intro i hi
  obtain ⟨hout, hapart⟩ := h i hi
  rw [htable, haddr i hi]
  refine ⟨hout, fun j hj => ?_⟩
  rw [haddr j hj]
  exact hapart j hj

theorem entriesApart.congr {s t : State} (h : entriesApart s) (hshadow : t.shadow = s.shadow)
    (hstraps : t.straps = s.straps) : entriesApart t := by
  have hmask : t.word offLevelMask = s.word offLevelMask := word_congr hshadow _
  obtain ⟨hbits, hfree⟩ := entriesApart_iff.mp h
  rw [entriesApart_iff, hmask]
  exact ⟨hbits, hfree.congr hstraps fun i _ => levelAddr_congr hshadow i⟩

/-! ### Storing a word -/

section Store
variable {s : State} {off : Nat} (hoff : 1 ≤ off)
include hoff

theorem levelAddr_store_of_ne (v : Word) {i : Fin 9} (hne : off ≠ offLevelAddr i.val) :
    (s.store off v).levelAddr i = s.levelAddr i := by
  have haddr : 1 ≤ offLevelAddr i.val := Nat.le_add_right_of_le (by decide)
  exact word_store_of_ne v (by omega)

/-- A word that is neither the mask nor an enabled entry's address leaves the entries apart. -/
theorem entriesApart.store (h : entriesApart s) (v : Word) (hmask : off ≠ offLevelMask)
    (haddr : ∀ i : Fin 9, bit (s.word offLevelMask) i.val = true → off ≠ offLevelAddr i.val) :
    entriesApart (s.store off v) := by
  have hbound : 1 ≤ offLevelMask := by decide
  have hkept : (s.store off v).word offLevelMask = s.word offLevelMask := word_store_of_ne v (by omega)
  obtain ⟨hbits, hfree⟩ := entriesApart_iff.mp h
  rw [entriesApart_iff, hkept]
  exact ⟨hbits, hfree.congr rfl fun i hi => levelAddr_store_of_ne hoff v (haddr i hi)⟩

end Store

/-- R65: a validated mask, stored. -/
theorem entriesApart_storeMask {s x : State} {old : Word} (h : entriesFree s old) (w : Word)
    (hshadow : x.shadow = s.shadow) (hstraps : x.straps = s.straps) :
    entriesApart (x.store offLevelMask (validLevelMask s old w)) := by
  have hmask : (x.store offLevelMask (validLevelMask s old w)).word offLevelMask = validLevelMask s old w :=
    (wordStored_store _ (by decide) (by decide)).1
  rw [entriesApart_iff, hmask]
  refine ⟨validLevelMask_entries s old w, (validLevelMask_entriesFree h w).congr hstraps fun i _ => ?_⟩
  rw [levelAddr_store_of_ne (by decide) _ (by simp only [offLevelMask, offLevelAddr]; omega)]
  exact levelAddr_congr hshadow i

/-! ## The valid words of the shadow (R149 to R154) -/

theorem validUpTo.congr {n : Nat} {s t : State} (h : validUpTo n s) (hshadow : t.shadow = s.shadow)
    (hstraps : t.straps = s.straps) : validUpTo n t := by
  refine ⟨fun off h1 hn hmask => ?_, fun hn => (h.2 hn).congr hshadow hstraps⟩
  rw [word_congr hshadow]
  exact h.1 off h1 hn hmask

/-- A valid word stored among the valid ones. -/
theorem validUpTo.store {n off : Nat} {s : State} {v : Word} (h : validUpTo n s) (h1 : 1 ≤ off) (hlast : off ≤ 0x121)
    (hmask : off ≠ offLevelMask) (hvalid : loadValue off v = v)
    (haddr : 0x020 ≤ n → ∀ i : Fin 9, bit (s.word offLevelMask) i.val = true → off ≠ offLevelAddr i.val) :
    validUpTo n (s.store off v) := by
  obtain ⟨hwords, hentries⟩ := h
  obtain ⟨hnew, hothers⟩ := wordStored_store (s := s) v h1 hlast
  refine ⟨fun k hk hn hkmask => ?_, fun hn => (hentries hn).store h1 v hmask (haddr hn)⟩
  by_cases hkoff : k = off
  · rw [hkoff, hnew, hvalid]
  · rw [hothers k hk hkoff]
    exact hwords k hk hn hkmask

/-- The next word, once stored, is valid too, unless the mask is judged with it. -/
theorem validUpTo.extend {off : Nat} {s : State} (h : validUpTo (off - 1) s) (haddr : off ≠ 0x020)
    (hvalid : off ≠ offLevelMask → loadValue off (s.word off) = s.word off) : validUpTo off s := by
  obtain ⟨hwords, hentries⟩ := h
  refine ⟨fun k hk hn hkmask => ?_, fun hn => hentries (by omega)⟩
  by_cases hkoff : k = off
  · subst hkoff
    exact hvalid hkmask
  · exact hwords k hk (by omega) hkmask

end Sys2Proof.Machine
end

section
namespace Sys2Proof.Machine

open Sys2Proof Sys2Proof.Config

/-! ## The table load keeps the start-up invariant (R149, R154, R155) -/

/-- The start-up invariant (R60, R62, R65, R68, R149, R154, R155). -/
def startUpRight (s : State) : Prop := heldInReset s ∧ startsAtLoad s ∧ shadowRight s ∧ levelsRight s

theorem loaded_iff {s : State} : s.loaded = true ↔ s.loader.phase = .complete := decide_eq_true_iff

theorem not_loaded_of_running {s : State} (h : s.loader.phase = .running) : s.loaded = false := by
  simp [State.loaded, h]

/-- One access of the load is in flight, and what it has read is valid (R149, R154). -/
def loadInOrder (s : State) : Prop :=
  2 ≤ s.loader.next ∧ s.loader.next ≤ 0x122 ∧ s.port.class1 = [] ∧
    ∃ a, s.port.inFlight = some a ∧
      (a.purpose = .tableRead (s.loader.next - 1) ∧ validUpTo (s.loader.next - 2) s ∨
        (∃ o, a.purpose = .writeBack o) ∧ validUpTo (s.loader.next - 1) s)

theorem shadowRight_iff {s : State} : shadowRight s ↔
    (s.loader.phase = .running → loadInOrder s) ∧ (s.loaded = true → validUpTo 0x121 s) := Iff.rfl

/-- Before load completion, with the reset input released, the invariant speaks of the resting blocks and the load. -/
theorem startUpRight_of_resting {s : State} (hr : s.resetHeld = false) (hl : s.loaded = false) (hrest : resting s)
    (hload : s.loader.phase = .running → loadInOrder s) : startUpRight s := by
  refine ⟨fun h => ?_, ⟨fun _ => hl, fun _ => hrest⟩, shadowRight_iff.mpr ⟨hload, fun h => ?_⟩, fun h => ?_⟩
  · rw [hr] at h; cases h
  · rw [hl] at h; cases h
  · rw [hl] at h; cases h

/-- The load between two of its accesses: what it has read is valid. -/
structure BetweenAccesses (x : State) : Prop where
  released : x.resetHeld = false
  running : x.loader.phase = .running
  rest : resting x
  free : x.port = ⟨none, []⟩
  begun : 2 ≤ x.loader.next
  bounded : x.loader.next ≤ 0x122
  valid : validUpTo (x.loader.next - 1) x

section Between
variable {s x : State} (h : BetweenAccesses x)
include h

/-- The next read is in flight. -/
theorem BetweenAccesses.readNext (hnext : x.loader.next ≤ 0x121) : startUpRight (readNext x) := by
  have hlow := h.begun
  refine startUpRight_of_resting h.released (not_loaded_of_running h.running) h.rest fun _ => ?_
  refine ⟨?_, ?_, rfl, _, rfl, .inl ⟨congrArg Purpose.tableRead ?_, h.valid.congr rfl rfl⟩⟩
  · show 2 ≤ x.loader.next + 1
    omega
  · show x.loader.next + 1 ≤ 0x122
    omega
  · show x.loader.next = x.loader.next + 1 - 1
    omega

/-- A write-back is in flight. -/
theorem BetweenAccesses.writesBack (off : Nat) (v : Word) : startUpRight (writesBack off v x) :=
  startUpRight_of_resting h.released (not_loaded_of_running h.running) h.rest fun _ =>
    ⟨h.begun, h.bounded, rfl, _, rfl, .inr ⟨⟨off, rfl⟩, h.valid.congr rfl rfl⟩⟩

/-- Load completion creates the records the mask asks for (R62). -/
theorem BetweenAccesses.completed (hnext : x.loader.next = 0x122) : startUpRight (completed x) := by
  have heq := completed_eq h.rest
  have hreleased : (Machine.completed x).resetHeld = false := by rw [heq]; exact h.released
  have hphase : (Machine.completed x).loader.phase = .complete := by rw [heq]
  have hshadow : (Machine.completed x).shadow = x.shadow := by rw [heq]
  have hstraps : (Machine.completed x).straps = x.straps := by rw [heq]
  have hrecs : (Machine.completed x).image = (startImage (prestarted x)).image := by rw [heq]
  have hloaded : (Machine.completed x).loaded = true := loaded_iff.mpr hphase
  have hvalid := h.valid
  rw [hnext] at hvalid
  refine ⟨fun hr => ?_, ⟨fun hr => ?_, fun hl => ?_⟩, ⟨fun hrun => ?_, fun _ => hvalid.congr hshadow hstraps⟩,
    fun _ i => ?_⟩
  · rw [hreleased] at hr; cases hr
  · rw [hreleased] at hr; cases hr
  · rw [hloaded] at hl; cases hl
  · rw [hphase] at hrun; cases hrun
  · rw [hrecs, (started_records h.rest h.free).1 i, word_congr hshadow, levelAddr_congr hshadow]
    cases hbit : bit (x.word offLevelMask) i.val
    · exact ⟨rfl, nofun⟩
    · exact ⟨rfl, fun r hr => by cases hr; rfl⟩

variable (hceil : x.ceil = s.ceil)
include hceil

/-- The load reads on or completes. -/
theorem BetweenAccesses.loadOn : startUpRight (conclude s (loadOn (Ev.of x))) := by
  by_cases hnext : x.loader.next ≤ 0x121
  · rw [conclude_loadOn hceil h.released h.free hnext]
    exact h.readNext hnext
  · have hbounded := h.bounded
    have hcomplete : Machine.loadOn (Ev.of x) = loadComplete (Ev.of x) := if_pos (Nat.lt_of_not_le hnext)
    have hreset : s.ceil = Ceilings.reset := by
      obtain ⟨-, -, -, -, hreset, -⟩ := h.rest
      exact hceil ▸ hreset
    rw [hcomplete, conclude_loadComplete h.rest hreset h.free]
    exact h.completed (by omega)

/-- A value that validation changed is written back first. -/
theorem BetweenAccesses.writeBackOr (off : Nat) (read valid : Word) :
    startUpRight (conclude s (writeBackOr off read valid (Ev.of x))) := by
  by_cases hsame : valid = read
  · rw [hsame, writeBackOr_same]
    exact h.loadOn hceil
  · rw [conclude_writeBack hceil h.released h.free hsame]
    exact h.writesBack off valid

end Between

/-- R65: the mask is judged when the last address is read. -/
theorem validUpTo_maskLoaded {s : State} (h : validUpTo 0x01F s) (v w : Word) :
    validUpTo 0x020 (maskLoaded v (validLevelMask (s.store 0x020 v) 0 w) s) := by
  refine ⟨fun k hk hn hmask => ?_, fun _ => entriesApart_storeMask (entriesFree_zero _) w rfl rfl⟩
  rw [maskLoaded, word_store _ (by decide) (by decide) hk, if_neg hmask, word_store v (by decide) (by decide) hk]
  split
  next hlast => subst hlast; rfl
  next hlast => exact h.1 k hk (by omega) hmask

section Running
variable {s : State} (hr : s.resetHeld = false) (hrun : s.loader.phase = .running) (hrest : resting s)
  (hlow : 2 ≤ s.loader.next) (hhigh : s.loader.next ≤ 0x122) (hclass1 : s.port.class1 = [])
include hr hrun hrest hlow hhigh hclass1

/-- TABLE_LOAD_READ_COMPLETION (R154). -/
theorem tableRead_startUpRight (hvalid : validUpTo (s.loader.next - 2) s) (v : Word) :
    startUpRight (conclude s (loadWord (s.loader.next - 1) v ((Ev.of s).upd State.portFree))) := by
  have hfree : s.portFree.port = ⟨none, []⟩ := congrArg (Port.mk none) hclass1
  generalize hoff : s.loader.next - 1 = off
  have hvalid : validUpTo (off - 1) s := by rw [show off - 1 = s.loader.next - 2 by omega]; exact hvalid
  by_cases hmask : off = offLevelMask
  · subst hmask
    have hext : validUpTo offLevelMask s := hvalid.extend (by decide) fun h => absurd rfl h
    rw [loadWord_mask]
    refine BetweenAccesses.loadOn (x := { s.portFree with loader := { s.loader with maskRead := v } })
      ⟨hr, hrun, hrest, hfree, hlow, hhigh, ?_⟩ rfl
    rw [hoff]
    exact hext.congr rfl rfl
  by_cases haddr : off = 0x020
  · subst haddr
    rw [loadWord_lastAddr]
    refine BetweenAccesses.writeBackOr (x := maskLoaded v _ s.portFree)
      ⟨hr, hrun, hrest, hfree, hlow, hhigh, ?_⟩ rfl _ _ _
    rw [show (maskLoaded v _ s.portFree).loader.next - 1 = 0x020 from hoff]
    exact validUpTo_maskLoaded (hvalid.congr (t := s.portFree) rfl rfl) v _
  · rw [loadWord_plain hmask haddr]
    refine BetweenAccesses.writeBackOr (x := s.portFree.store off (loadValue off v))
      ⟨hr, hrun, hrest, hfree, hlow, hhigh, ?_⟩ rfl _ _ _
    rw [show (s.portFree.store off (loadValue off v)).loader.next - 1 = off from hoff]
    have hstored := (hvalid.congr (t := s.portFree) rfl rfl).store (by omega) (by omega) hmask (loadValue_idem off v)
      fun _ i _ => by simp only [offLevelAddr]; omega
    refine hstored.extend haddr fun _ => ?_
    rw [(wordStored_store (loadValue off v) (by omega) (by omega)).1, loadValue_idem]

/-- WRITE_BACK_COMPLETION (R154). -/
theorem writeBack_startUpRight (hvalid : validUpTo (s.loader.next - 1) s) :
    startUpRight (conclude s (loadOn (Ev.of s.portFree))) :=
  BetweenAccesses.loadOn (x := s.portFree)
    ⟨hr, hrun, hrest, congrArg (Port.mk none) hclass1, hlow, hhigh, hvalid.congr rfl rfl⟩ rfl

end Running

theorem validUpTo_zero (s : State) : validUpTo 0 s :=
  ⟨fun _ h1 hn => absurd (h1.trans hn) (by decide), fun hn => absurd hn (by decide)⟩

/-- RESET_RELEASE begins the load with nothing read (R154, R159). -/
theorem resetRelease_startUpRight {s t : State} {straps : BitVec 4} (h : heldInReset s) (hr : s.resetHeld = true)
    (hexec : exec (.resetRelease straps) s = .next t) : startUpRight t := by
  have hs := h hr
  have hport : s.port = ⟨none, []⟩ := by rw [hs]; rfl
  rw [tableLoadGoesWordByWord.1 straps s hr hport] at hexec
  obtain rfl := Host.Outcome.next.inj hexec
  have hrest : resting s := by
    rw [hs]
    exact ⟨rfl, rfl, rfl, rfl, rfl, rfl, rfl, rfl, rfl, rfl, LinkState.noConfusion⟩
  refine startUpRight_of_resting rfl rfl hrest fun _ => ?_
  exact ⟨Nat.le_refl 2, (by decide : 2 ≤ 0x122), rfl, _, rfl, .inl ⟨rfl, validUpTo_zero _⟩⟩

end Sys2Proof.Machine
end

section
namespace Sys2Proof.Machine

open Sys2Proof Sys2Proof.Config

/-! ## What waits for load completion (R1, R122, R155)

Until load completion the blocks rest: a command bears on the load, or on the time, the input pins, the link
and the port alone. -/

/-- The access in flight is the table load's. -/
def loadAccess (s : State) : Prop :=
  ∃ a, s.port.inFlight = some a ∧ ((∃ o, a.purpose = .tableRead o) ∨ ∃ o, a.purpose = .writeBack o)

/-- `t` differs from `s` in the time, the input pins, the link and the port at most; no request comes to be
served, and the load's access is left alone. -/
structure Waits (s t : State) : Prop where
  frame : t = { s with
    ms := t.ms
    arc := { s.arc with lines := t.arc.lines, surgeInput := t.arc.surgeInput }
    link := t.link, port := t.port, pending := t.pending }
  link : t.link.state = .serving → s.link.state = .serving
  port : loadAccess s → t.port = s.port

theorem Waits.refl (s : State) : Waits s s := ⟨rfl, id, fun _ => rfl⟩

theorem Waits.trans {s x t : State} (h : Waits s x) (k : Waits x t) : Waits s t where
  frame := by
    have hx := h.frame
    have ht := k.frame
    rw [hx] at ht
    exact ht
  link := fun hl => h.link (k.link hl)
  port := fun ⟨a, ha, hload⟩ => by
    have hx := h.port ⟨a, ha, hload⟩
    exact (k.port ⟨a, by rw [hx]; exact ha, hload⟩).trans hx

/-- Blocks that rest still rest. -/
theorem Waits.resting {s t : State} (h : Waits s t) (hs : resting s) : resting t := by
  obtain ⟨hchecker, hmeas, hmis, hmods, hceil, himage, harc, hctl, hstepped, hpub, hlink⟩ := hs
  have ht := h.frame
  refine ⟨?_, ?_, ?_, ?_, ?_, ?_, ?_, ?_, ?_, ?_, fun hl => hlink (h.link hl)⟩
  · rw [ht]; exact hchecker
  · rw [ht]; exact hmeas
  · rw [ht]; exact hmis
  · rw [ht]; exact hmods
  · rw [ht]; exact hceil
  · rw [ht]; exact himage
  · rw [ht, harc]
  · rw [ht]; exact hctl
  · rw [ht]; exact hstepped
  · rw [ht]; exact hpub

/-- What waits leaves the load where it stands. -/
theorem Waits.startUpRight {s t : State} (h : Waits s t) (hr : s.resetHeld = false) (hl : s.loaded = false)
    (hs : startUpRight s) : startUpRight t := by
  obtain ⟨-, hstart, hshadow, -⟩ := hs
  have hloader : t.loader = s.loader := by rw [h.frame]
  have hwords : t.shadow = s.shadow := by rw [h.frame]
  have hstraps : t.straps = s.straps := by rw [h.frame]
  refine startUpRight_of_resting (by rw [h.frame]; exact hr) (by rw [State.loaded, hloader]; exact hl)
    (h.resting (hstart.2 hl)) fun hrun => ?_
  rw [hloader] at hrun
  obtain ⟨hlow, hhigh, hclass1, a, ha, hload⟩ := (shadowRight_iff.mp hshadow).1 hrun
  have hport : t.port = s.port := h.port ⟨a, ha, hload.imp (fun k => ⟨_, k.1⟩) fun k => k.1⟩
  rw [loadInOrder, hloader, hport]
  exact ⟨hlow, hhigh, hclass1, a, ha,
    hload.imp (fun k => ⟨k.1, k.2.congr hwords hstraps⟩) fun k => ⟨k.1, k.2.congr hwords hstraps⟩⟩

/-! ### The kinds of what waits -/

section Kinds
variable {s t : State}

/-- Time that passes, and pins that move. -/
theorem Waits.of_pins (h : t = { s with
    ms := t.ms, arc := { s.arc with lines := t.arc.lines, surgeInput := t.arc.surgeInput } }) : Waits s t :=
  ⟨by rw [h], by rw [h]; exact id, fun _ => by rw [h]⟩

/-- What bears on the link alone. -/
theorem Waits.of_link (l : Link) (hl : l.state ≠ .serving) : Waits s { s with link := l } :=
  ⟨rfl, fun h => absurd h hl, fun _ => rfl⟩

/-- An access other than the load's, or its completion. -/
theorem Waits.of_port (hs : ¬loadAccess s) (p : Port) : Waits s { s with port := p } :=
  ⟨rfl, id, fun h => absurd h hs⟩

theorem not_loadAccess_of_idle (h : s.port.inFlight = none) : ¬loadAccess s := by
  rintro ⟨a, ha, -⟩
  rw [h] at ha
  cases ha

theorem not_loadAccess_of_purpose {a : Access} (h : s.port.inFlight = some a) (hread : ∀ o, a.purpose ≠ .tableRead o)
    (hback : ∀ o, a.purpose ≠ .writeBack o) : ¬loadAccess s := by
  rintro ⟨b, hb, hload⟩
  obtain rfl : a = b := Option.some.inj (h.symm.trans hb)
  rcases hload with ⟨o, ho⟩ | ⟨o, ho⟩
  · exact hread o ho
  · exact hback o ho

/-- A completion of an access of another purpose. -/
theorem not_loadAccess_of_completing {p : Purpose} (h : s.completing p = true) (hread : ∀ o, p ≠ .tableRead o)
    (hback : ∀ o, p ≠ .writeBack o) : ¬loadAccess s := by
  simp only [State.completing, Bool.and_eq_true, Option.any_eq_true, beq_iff_eq] at h
  obtain ⟨-, a, ha, rfl⟩ := h
  exact not_loadAccess_of_purpose ha hread hback

/-- A command with a guard either does its event or nothing. -/
theorem waits_whenever {p : Bool} {u : State} (h : whenever p s u = .next t) (hu : p = true → Waits s u) :
    Waits s t := by
  cases p
  · cases h; exact .refl s
  · cases h; exact hu rfl

theorem waits_not {p : Bool} {u : State} (h : whenever p s u = .next t) (hp : p = false) : Waits s t :=
  waits_whenever h fun hp' => absurd hp' (by rw [hp]; exact Bool.false_ne_true)

end Kinds

/-- The arbiter's own grants are the load's accesses, and reads that only a served request asks for (R133). -/
theorem settle_waits {s : State} (h : resting s) : Waits s (settle s) := by
  obtain ⟨-, -, -, -, -, -, -, -, hstepped, -, hlink⟩ := h
  rcases settle_cases s with hs | ⟨-, hfree, ⟨o, r, -, hs⟩ | ⟨o, v, r, -, hs⟩ |
      ⟨-, -, ⟨t, c, hpending, -, -⟩ | ⟨-, hread, -⟩⟩⟩
  · rw [hs]; exact .refl s
  · rw [hs]; exact .of_port (not_loadAccess_of_idle hfree) _
  · rw [hs]; exact .of_port (not_loadAccess_of_idle hfree) _
  · rw [hstepped] at hpending; cases hpending
  · rw [readOffered_of_state hlink] at hread; cases hread

/-- An event that submits no record. -/
theorem conclude_waits {s : State} {e : Ev} (hs : resting s) (h : Waits s e.st) (hout : e.out = []) :
    Waits s (conclude s e) := by
  have hceil : e.st.ceil = s.ceil := by rw [h.frame]
  rw [conclude_of_ceil hout hceil]
  exact h.trans (settle_waits (h.resting hs))

theorem waits_event {s t : State} {p : Bool} {e : Ev} (hs : resting s) (hexec : whenever p s (conclude s e) = .next t)
    (h : p = true → Waits s e.st) (hout : e.out = []) : Waits s t :=
  waits_whenever hexec fun hp => conclude_waits hs (h hp) hout

/-! ### Blocks that rest take no notice -/

section Resting
variable {s : State} (hs : resting s)
include hs

/-- No record is there to seed, to write or to schedule. -/
theorem updRec_resting (i : Fin 9) (f : LevelRec → LevelRec) : s.image.updRec i f = s.image := by
  obtain ⟨-, -, -, -, -, himage, -⟩ := hs
  have hset : (Vector.replicate 9 (none : Option LevelRec)).set i.val none = Vector.replicate 9 none := by
    ext j hj
    simp
  rw [himage, Image.updRec, upd, Image.reset]
  simp [hset]

theorem reschedule_resting (i : Fin 9) : reschedule i s = s := by
  obtain ⟨-, -, -, -, -, himage, -⟩ := hs
  have hschedule : schedule s.ceil i s.image = s.image := by
    rw [himage]
    simp [schedule, Image.reset]
  rw [reschedule, hschedule]

theorem applyWrite_resting (i : Fin 9) (v : Word) : applyWrite i v s = s := by
  rw [applyWrite, updRec_resting hs]
  exact reschedule_resting hs i

theorem inputChange_resting (i : Fin 5) (level : Bool) : inputChange i level (Ev.of s) = Ev.of s := by
  obtain ⟨-, -, -, -, -, -, harc, -⟩ := hs
  have hdisabled : (s.arc.sources[i]).state = .disabled := by
    rw [harc]
    simp [Arc.reset]
  exact if_pos hdisabled

/-- No LINK record is submitted in START (R135). -/
theorem reportLink_resting (k : LinkSubject) (l : Link) {e : Ev} (he : e.st.ctl = s.ctl) : reportLink k l e = e :=
  if_pos (by rw [he]; exact hs.start)

theorem grantPublication_resting : grantPublication s = s := by
  obtain ⟨-, -, -, -, -, -, -, -, -, hpub, -⟩ := hs
  have htest (w : Word) : ringTest w Publication.reset = Publication.reset := by
    unfold ringTest
    split <;> rfl
  have hkept : ringTest (s.word offConsumed) s.pub = s.pub := by
    rw [hpub, htest]
  have hcurrent : s.pub.current = none := by rw [hpub]; rfl
  have hfifo : s.pub.fifo = [] := by rw [hpub]; rfl
  have hsnapshot : s.pub.snapshot = none := by rw [hpub]; rfl
  simp only [grantPublication, hcurrent, hkept, hfifo, hsnapshot]

end Resting

/-! ### The commands sorted -/

section Commands
variable {s t : State} (hs : resting s)
include hs

omit hs in
theorem captureReadGrant_waits (h : execCaptureReadGrant s = .next t) : Waits s t := by
  unfold execCaptureReadGrant at h
  split at h
  · refine waits_whenever h fun hp => .of_port (not_loadAccess_of_idle ?_) _
    simp [State.portIdle] at hp
    exact hp.2
  · cases h; exact .refl s

theorem captureReadCompletion_waits {m : Word} (h : execCaptureReadCompletion m s = .next t) : Waits s t := by
  unfold execCaptureReadCompletion at h
  split at h
  next i _ _ hport =>
    refine waits_event hs h (fun _ => ?_) rfl
    have hfree : Waits s s.portFree := .of_port (not_loadAccess_of_purpose hport nofun nofun) _
    have hkept : (s.portFree.image).updRec i (seedRecord m.toNat) = s.portFree.image :=
      updRec_resting (hfree.resting hs) i _
    have hsame : reschedule i { s.portFree with image := s.image.updRec i (seedRecord m.toNat) } = s.portFree := by
      rw [show s.image.updRec i (seedRecord m.toNat) = s.portFree.image from hkept]
      exact reschedule_resting (hfree.resting hs) i
    rw [Ev.upd_st, Ev.of_st, hsame]
    exact hfree
  next => cases h; exact .refl s

theorem imageWriteCompletion_waits (h : execImageWriteCompletion s = .next t) : Waits s t := by
  unfold execImageWriteCompletion at h
  split at h
  next i _ v hport =>
    refine waits_event hs h (fun _ => ?_) rfl
    have hfree : Waits s s.portFree := .of_port (not_loadAccess_of_purpose hport nofun nofun) _
    rw [Ev.upd_st, Ev.of_st, applyWrite_resting (hfree.resting hs)]
    exact hfree
  next => cases h; exact .refl s

/-- The link while no request is served: a word disposed of ends nothing. -/
theorem disposed_resting : s.link.disposed = s.link := by
  obtain ⟨-, -, -, -, -, -, -, -, -, -, hlink⟩ := hs
  exact if_neg fun h => hlink h.1

theorem hostLevelWriteCompletion_waits (h : execHostLevelWriteCompletion s = .next t) : Waits s t := by
  unfold execHostLevelWriteCompletion at h
  split at h
  next i _ v hport =>
    refine waits_event hs h (fun _ => ?_) rfl
    have hfree : Waits s s.portFree := .of_port (not_loadAccess_of_purpose hport nofun nofun) _
    have hlink : s.portFree.updLink Link.disposed = s.portFree := by
      rw [State.updLink, show s.portFree.link.disposed = s.portFree.link from disposed_resting hs]
    rw [Ev.upd_st, Ev.of_st, hlink, applyWrite_resting (hfree.resting hs)]
    exact hfree
  next => cases h; exact .refl s

/-- An input that moves: only the pin is noted, as no source is watched (log entry 5). -/
theorem pinMoves_waits {u : State} (hr : s.resetHeld = false) (hu : pinned s u) (i : Fin 5) (level : Bool) :
    Waits s (if s.resetHeld then u else conclude s (inputChange i level (Ev.of u))) := by
  have hpin : Waits s u := .of_pins (by rw [hu])
  rw [if_neg (by rw [hr]; exact Bool.false_ne_true), inputChange_resting (hpin.resting hs)]
  exact conclude_waits hs hpin rfl

/-- A complete frame: before load completion the controller is in START, so the request is refused (R126). -/
theorem requestFrame_waits {w : Word} {mark : Bool} (h : execRequestFrame w mark s = .next t) : Waits s t := by
  have hstart : judgeFrame s w ≠ .accepted := by
    unfold judgeFrame
    dsimp only
    split_ifs with hcheck hrange hbusy
    · nofun
    · nofun
    · nofun
    · exact absurd hs.start hbusy
  have hrefused (status : Word) (l : Link) : Waits s { s with link := l.answer [status] } := .of_link _ nofun
  refine waits_whenever h fun _ => ?_
  cases hjudge : judgeFrame s w with
  | refusedCheck =>
    dsimp only
    rw [reportLink_resting hs _ _ rfl]
    exact conclude_waits hs (hrefused 3 _) rfl
  | refusedRange =>
    dsimp only
    rw [reportLink_resting hs _ _ rfl]
    exact conclude_waits hs (hrefused 4 _) rfl
  | refusedBusy => exact conclude_waits hs (hrefused 5 _) rfl
  | accepted => exact absurd hjudge hstart

theorem stallTimerExpiry_waits (h : execStallTimerExpiry s = .next t) : Waits s t := by
  unfold execStallTimerExpiry at h
  rw [reportLink_resting hs _ _ rfl] at h
  exact waits_event hs h (fun _ => .of_link _ nofun) rfl

theorem hostReadCompletion_waits {v : Word} (h : execHostReadCompletion v s = .next t) : Waits s t := by
  refine waits_event hs h (fun hp => ?_) rfl
  have hread : (s.link.readDone v).state ≠ .serving := by
    obtain ⟨-, -, -, -, -, -, -, -, -, -, hlink⟩ := hs
    unfold Link.readDone
    dsimp only
    split
    · nofun
    · exact hlink
  exact (Waits.of_port (not_loadAccess_of_completing hp nofun nofun) _).trans (.of_link _ hread)

theorem hostWriteCompletion_waits (h : execHostWriteCompletion s = .next t) : Waits s t := by
  refine waits_event hs h (fun hp => ?_) rfl
  have hload : ¬loadAccess s := by
    rcases Bool.or_eq_true_iff.mp hp with hp | hp
    · exact not_loadAccess_of_completing hp nofun nofun
    · exact not_loadAccess_of_completing hp nofun nofun
  have hlink : s.portFree.updLink Link.disposed = s.portFree := by
    rw [State.updLink, show s.portFree.link.disposed = s.portFree.link from disposed_resting hs]
  have hstepped : (if s.completing .stepWrite then none else s.stepped) = s.stepped := by
    obtain ⟨-, -, -, -, -, -, -, -, hstepped, -⟩ := hs
    rw [hstepped, ite_self]
  rw [Ev.upd_st, Ev.of_st, hlink, hstepped]
  exact .of_port hload _

theorem publicationWriteGrant_waits (h : execPublicationWriteGrant s = .next t) : Waits s t := by
  refine waits_event hs h (fun _ => ?_) rfl
  rw [Ev.upd_st, Ev.of_st, grantPublication_resting hs]
  exact .refl s

theorem snapshotWordCompletion_waits (h : execSnapshotWordCompletion s = .next t) : Waits s t := by
  refine waits_event hs h (fun hp => ?_) rfl
  obtain ⟨-, -, -, -, -, -, -, -, -, hpub, -⟩ := hs
  have hkept : snapshotDone s.pub = s.pub := by rw [hpub]; rfl
  rw [Ev.upd_st, Ev.of_st, hkept]
  exact .of_port (not_loadAccess_of_completing hp nofun nofun) _

theorem recordWordCompletion_waits (h : execRecordWordCompletion s = .next t) : Waits s t := by
  refine waits_event hs h (fun hp => ?_) rfl
  obtain ⟨-, -, -, -, -, -, -, -, -, hpub, -⟩ := hs
  have hkept (m w : Word) : recordDone m w s.pub = s.pub := by rw [hpub]; rfl
  rw [Ev.upd_st, Ev.of_st, hkept]
  exact .of_port (not_loadAccess_of_completing hp nofun nofun) _

/-- Before load completion every command but RESET and the two completions of the load's accesses waits. -/
theorem exec_waits {c : Instr} (hr : s.resetHeld = false) (hl : s.loaded = false) (hreset : ∀ k, c ≠ .reset k)
    (hread : ∀ v, c ≠ .tableLoadReadCompletion v) (hback : c ≠ .writeBackCompletion) (h : exec c s = .next t) :
    Waits s t := by
  have hserving : s.handoffWord = none := by
    cases hw : s.handoffWord with
    | none => rfl
    | some x =>
      obtain ⟨-, -, -, -, hlink, -⟩ := handoffWord_eq_some.mp hw
      obtain ⟨-, -, -, -, -, -, -, -, -, -, hnot⟩ := hs
      exact absurd hlink hnot
  have hsame (hc : exec c s = .next s) : Waits s t := by
    obtain rfl := Host.Outcome.next.inj (hc.symm.trans h)
    exact .refl s
  obtain ⟨-, hrelease, -, -, -, hramp, hgate, hsettle, hproof, hblank, hhold, -, htimer,
    hsweep, hsnapshot, hmodule, hedge⟩ :=
    eventsOutOfPlaceChangeNothing s
  have hrest := hs
  obtain ⟨hchecker, hmeas, -, hmods, hceil, himage, harc, hctl, hstepped, hpub, hlink⟩ := hrest
  cases c with
  | reset k => exact absurd rfl (hreset k)
  | tableLoadReadCompletion v => exact absurd rfl (hread v)
  | writeBackCompletion => exact absurd rfl hback
  | resetRelease b => exact hsame (hrelease hr b)
  | sampleArrival ch raw => exact hsame (exec_sampleArrival_discards (.inr (.inl hl)) raw)
  | flowPulse => exact waits_not h (by simp [hl])
  | rampExpiry => exact hsame (hramp (by rw [hceil]; rfl))
  | flowGateExpiry => exact hsame (hgate (by rw [hmeas]; rfl))
  | muteSettleExpiry => exact hsame (hsettle (by rw [harc]; rfl))
  | proofTimerExpiry => exact hsame (hproof (.inl (by rw [harc]; rfl)))
  | blankExpiry => exact hsame (hblank (by rw [hctl]; rfl))
  | systemRecoveryHoldExpiry => exact hsame (hhold (by rw [hctl]; rfl))
  | interruptionEntryRemoval => exact waits_not h (by rw [State.removalDue, hctl]; simp [Controller.reset])
  | sweepTimerExpiry => exact hsame (htimer (by rw [hchecker]; rfl))
  | sweepCompletion => exact hsame (hsweep (by rw [hchecker]; rfl))
  | snapshotTimerExpiry => exact hsame (hsnapshot (by rw [hpub]; rfl))
  | moduleRecoveryHoldExpiry n => exact hsame (hmodule n (by rw [hmods]; simp [Modules.reset]))
  | debouncedTransition i => exact hsame (hedge i (by rw [harc]; simp [Arc.reset]))
  | captureReadGrant => exact captureReadGrant_waits h
  | captureReadCompletion => exact captureReadCompletion_waits hs h
  | imageWriteGrant =>
    have hqueue : s.image.queue = [] := by rw [himage]; rfl
    exact hsame (by simp only [exec, execImageWriteGrant, hqueue])
  | imageWriteCompletion => exact imageWriteCompletion_waits hs h
  | hostLevelWriteCompletion => exact hostLevelWriteCompletion_waits hs h
  | pendingChange i high => exact waits_whenever h fun _ => pinMoves_waits hs hr (by rfl) i high
  | surgeComparatorChange r => exact waits_whenever (p := true) h fun _ => pinMoves_waits hs hr (by rfl) 4 _
  | linkHeader => exact waits_whenever h fun _ => .of_link _ nofun
  | frameWord => exact waits_whenever h fun _ => .of_link _ hlink
  | discardedWord => exact hsame rfl
  | requestFrame w mark => exact requestFrame_waits (mark := mark) hs h
  | stallTimerExpiry => exact stallTimerExpiry_waits hs h
  | hostReadCompletion => exact hostReadCompletion_waits hs h
  | hostWriteCompletion => exact hostWriteCompletion_waits hs h
  | stepPreReadCompletion => exact hsame (by simp only [exec, execStepPreReadCompletion, hstepped])
  | responseSent => exact waits_whenever h fun _ => .of_link _ nofun
  | publicationWriteGrant => exact publicationWriteGrant_waits hs h
  | snapshotWordCompletion => exact snapshotWordCompletion_waits hs h
  | recordWordCompletion => exact recordWordCompletion_waits hs h
  | _ => exact hsame (exec_handoffRow_none hserving _ (by simp [handoffRows]))

end Commands

end Sys2Proof.Machine
end

section
namespace Sys2Proof.Machine

open Sys2Proof Sys2Proof.Config

/-! ## What leaves the stored values and the level records' addresses alone -/

/-- The address of entry `i`'s record, if it has one. -/
def recAddr (im : Image) (i : Fin 9) : Option Word := (im.recs[i]).map LevelRec.addr

/-- `t` holds the stored values of `s`, and level records of the same addresses. -/
structure TableKept (s t : State) : Prop where
  resetHeld : t.resetHeld = s.resetHeld
  straps : t.straps = s.straps
  loader : t.loader = s.loader
  shadow : t.shadow = s.shadow
  addrs : ∀ i : Fin 9, recAddr t.image i = recAddr s.image i

theorem TableKept.refl (s : State) : TableKept s s := ⟨rfl, rfl, rfl, rfl, fun _ => rfl⟩

theorem TableKept.trans {s x t : State} (h : TableKept s x) (k : TableKept x t) : TableKept s t :=
  ⟨k.resetHeld.trans h.resetHeld, k.straps.trans h.straps, k.loader.trans h.loader, k.shadow.trans h.shadow,
    fun i => (k.addrs i).trans (h.addrs i)⟩

/-- What leaves the drive image alone. -/
theorem TableKept.of_image {s t : State} (hr : t.resetHeld = s.resetHeld) (hp : t.straps = s.straps)
    (hl : t.loader = s.loader) (hw : t.shadow = s.shadow) (hi : t.image = s.image) : TableKept s t :=
  ⟨hr, hp, hl, hw, fun i => by rw [hi]⟩

section Frames
variable {s t : State}

theorem quiet.tableKept (h : quiet s t) : TableKept s t :=
  .of_image (by rw [h]) (by rw [h]) (by rw [h]) (by rw [h]) (by rw [h])

theorem steered.tableKept (h : steered s t) : TableKept s t :=
  .of_image (by rw [h]) (by rw [h]) (by rw [h]) (by rw [h]) (by rw [h])

theorem Measured.tableKept (h : Measured s t) : TableKept s t :=
  .of_image (by rw [h.frame]) (by rw [h.frame]) (by rw [h.frame]) (by rw [h.frame]) (by rw [h.frame])

theorem modulesMoved.tableKept (h : modulesMoved s t) : TableKept s t :=
  .of_image (by rw [h]) (by rw [h]) (by rw [h]) (by rw [h]) (by rw [h])

theorem recompute_tableKept (s : State) : TableKept s (recompute s) := .of_image rfl rfl rfl rfl rfl

/-- A change of one record that leaves its address. -/
theorem updRec_recAddr (im : Image) (i j : Fin 9) {f : LevelRec → LevelRec} (hf : ∀ r, (f r).addr = r.addr) :
    recAddr (im.updRec i f) j = recAddr im j := by
  rw [recAddr, updRec_recs]
  split
  next h =>
    subst h
    rw [recAddr, Option.map_map]
    exact congrArg (Option.map · _) (funext hf)
  next => rfl

/-- The same before the record is scheduled. -/
theorem reschedule_updRec_tableKept (s : State) (i : Fin 9) {f : LevelRec → LevelRec} (hf : ∀ r, (f r).addr = r.addr) :
    TableKept s (reschedule i { s with image := s.image.updRec i f }) :=
  ⟨rfl, rfl, rfl, rfl, fun j => by
    rw [recAddr, reschedule, schedule_recs]
    exact updRec_recAddr s.image i j hf⟩

theorem applyWrite_tableKept (i : Fin 9) (v : Word) (s : State) : TableKept s (applyWrite i v s) :=
  reschedule_updRec_tableKept s i fun _ => rfl

theorem portFree_tableKept (s : State) : TableKept s s.portFree := .of_image rfl rfl rfl rfl rfl

theorem conclude_tableKept {e : Ev} (h : TableKept s e.st) (b : State) : TableKept s (conclude b e) := by
  have hrecs : (conclude b e).image.recs = e.st.image.recs := by simp [conclude_eq]
  refine h.trans ⟨by simp, by simp, by simp, by simp, fun i => ?_⟩
  rw [recAddr, hrecs, recAddr]

/-- A command with a guard either does its event or nothing. -/
theorem kept_whenever {p : Bool} {u : State} (h : whenever p s u = .next t) (hu : p = true → TableKept s u) :
    TableKept s t := by
  cases p
  · cases h; exact .refl s
  · cases h; exact hu rfl

theorem kept_event {p : Bool} {b : State} {e : Ev} (h : whenever p s (conclude b e) = .next t) (he : TableKept s e.st) :
    TableKept s t :=
  kept_whenever h fun _ => conclude_tableKept he b

end Frames

/-! ### The commands but the handoffs -/

section Commands
variable {s t : State}

theorem flowGateExpiry_kept (h : execFlowGateExpiry s = .next t) : TableKept s t := by
  refine kept_whenever h fun _ => ?_
  have hgate : TableKept s (startGate (setPulses 0 s)) := .of_image rfl rfl rfl rfl rfl
  dsimp only
  split
  · have harrive := (arrive_measured (c := 24) false s.meas.pulses (Ev.of (startGate (setPulses 0 s)))).tableKept
    exact conclude_tableKept ((hgate.trans harrive).trans (recompute_tableKept _)) s
  · exact conclude_tableKept hgate s

theorem rampExpiry_kept (h : execRampExpiry s = .next t) : TableKept s t := by
  refine kept_event h ?_
  unfold ceilingReached
  split <;> exact .of_image rfl rfl rfl rfl rfl

theorem captureReadGrant_kept (h : execCaptureReadGrant s = .next t) : TableKept s t := by
  unfold execCaptureReadGrant at h
  split at h
  · exact kept_whenever h fun _ => .of_image rfl rfl rfl rfl rfl
  · cases h; exact .refl s

theorem captureReadCompletion_kept {m : Word} (h : execCaptureReadCompletion m s = .next t) : TableKept s t := by
  unfold execCaptureReadCompletion at h
  split at h
  next i _ _ _ =>
    have hseed := reschedule_updRec_tableKept s.portFree i (f := seedRecord m.toNat) fun _ => rfl
    exact kept_event h ((portFree_tableKept s).trans hseed)
  next => cases h; exact .refl s

theorem imageWriteGrant_kept (h : execImageWriteGrant s = .next t) : TableKept s t := by
  unfold execImageWriteGrant at h
  split at h
  next e rest _ =>
    split at h
    · exact kept_whenever h fun _ => ⟨rfl, rfl, rfl, rfl, fun i => updRec_recAddr _ e.entry i fun _ => rfl⟩
    · cases h; exact .refl s
  next => cases h; exact .refl s

theorem imageWriteCompletion_kept (h : execImageWriteCompletion s = .next t) : TableKept s t := by
  unfold execImageWriteCompletion at h
  split at h
  next i _ v _ => exact kept_event h ((portFree_tableKept s).trans (applyWrite_tableKept i v _))
  next => cases h; exact .refl s

theorem hostLevelWriteCompletion_kept (h : execHostLevelWriteCompletion s = .next t) : TableKept s t := by
  unfold execHostLevelWriteCompletion at h
  split at h
  next i _ v _ =>
    have hlink : TableKept s (s.portFree.updLink Link.disposed) := .of_image rfl rfl rfl rfl rfl
    exact kept_event h (hlink.trans (applyWrite_tableKept i v _))
  next => cases h; exact .refl s

/-- An input that moves (log entry 5). -/
theorem pinMoves_kept {u : State} (hu : pinned s u) (i : Fin 5) (level : Bool) :
    TableKept s (if s.resetHeld then u else conclude s (inputChange i level (Ev.of u))) := by
  have hpin : TableKept s u := .of_image (by rw [hu]) (by rw [hu]) (by rw [hu]) (by rw [hu]) (by rw [hu])
  split
  · exact hpin
  · exact conclude_tableKept (hpin.trans (inputChange_steered i level (Ev.of u)).tableKept) s

theorem debouncedTransition_kept {i : Fin 5} (h : execDebouncedTransition i s = .next t) : TableKept s t := by
  unfold execDebouncedTransition at h
  split at h
  next p _ => exact kept_event h (debounced_steered i p.level (Ev.of s)).tableKept
  next => cases h; exact .refl s

theorem proofTimerExpiry_kept (h : execProofTimerExpiry s = .next t) : TableKept s t := by
  unfold execProofTimerExpiry at h
  split at h
  next => cases h; exact .refl s
  next p _ =>
    refine kept_whenever h fun _ => ?_
    split
    · have hended : steered s (setStimulus p.source false (setProof none none s)) := rfl
      refine conclude_tableKept ?_ s
      exact (hended.trans (setSourceState_steered p.source .failed _)).tableKept
    · have hended : steered s (setProof none none s) := rfl
      refine conclude_tableKept ?_ s
      exact hended.tableKept

theorem requestFrame_kept {w : Word} {mark : Bool} (h : execRequestFrame w mark s = .next t) : TableKept s t := by
  refine kept_event h ?_
  split
  · rw [reportLink_st]; exact .of_image rfl rfl rfl rfl rfl
  · rw [reportLink_st]; exact .of_image rfl rfl rfl rfl rfl
  · exact .of_image rfl rfl rfl rfl rfl
  · exact .of_image rfl rfl rfl rfl rfl

theorem stallTimerExpiry_kept (h : execStallTimerExpiry s = .next t) : TableKept s t :=
  kept_event h (by rw [reportLink_st]; exact .of_image rfl rfl rfl rfl rfl)

theorem stepPreReadCompletion_kept {v : Word} (h : execStepPreReadCompletion v s = .next t) : TableKept s t := by
  unfold execStepPreReadCompletion at h
  split at h
  · exact kept_event h (.of_image rfl rfl rfl rfl rfl)
  · cases h; exact .refl s

theorem sweepCompletion_kept (h : execSweepCompletion s = .next t) : TableKept s t := by
  unfold execSweepCompletion at h
  split at h
  next => cases h; exact .refl s
  next =>
    refine kept_event h ?_
    unfold changeVerdict
    split <;> exact .of_image rfl rfl rfl rfl rfl

end Commands

/-! ### The handoffs -/

/-- What a command makes of a loaded state: the stored values stand, or the word offered is handed off. A guard
entry's word A has a row of its own. -/
def KeptOrHanded (s : State) (c : Instr) (t : State) : Prop :=
  TableKept s t ∨ ∃ a w, s.handoffWord = some (a, w) ∧ t = takeHostWord s a w ∧
    ∀ g, s.target a = .guardA g → c = .guardWordAWrite

/-- Every handoff row hands off the word offered, or does nothing. -/
theorem handoff_keptOrHanded {kind : State → Word → Word → Bool} {s t : State} {c : Instr}
    (h : handoffOf kind s = .next t)
    (hc : c = .guardWordAWrite ∨ ∀ a w g, s.target a = .guardA g → kind s a w = false) : KeptOrHanded s c t := by
  unfold handoffOf at h
  split at h
  next a w hw =>
    cases hk : kind s a w
    · rw [hk] at h; cases h; exact .inl (.refl s)
    · rw [hk] at h
      cases h
      refine .inr ⟨a, w, hw, rfl, fun g hg => hc.resolve_right fun hnot => ?_⟩
      rw [hnot a w g hg] at hk
      cases hk
  next => cases h; exact .inl (.refl s)

section Rows
variable {s : State} {a w : Word} {g : Fin 16} (ht : s.target a = .guardA g)
include ht

theorem isSource_guardA (p : Word → Word → Bool) : isSource p s a w = false := by
  simp [isSource, ht]

theorem isChannel0_guardA (p : Word → Word → Bool) : isChannel0 p s a w = false := by
  simp [isChannel0, ht]

theorem isTarget_guardA {p : Target → Bool} (hp : p (.guardA g) = false) : isTarget p s a w = false := by
  rw [isTarget, ht, hp]

theorem isCommand_guardA (lo hi : Nat) : isCommand lo hi s a w = false := by
  simp [isCommand, ht]

end Rows

/-- While the load does not run its accesses do not complete. -/
theorem exec_tableRead_of_not_loading {s : State} (h : s.loading = false) (v : Word) :
    exec (.tableLoadReadCompletion v) s = .next s := by
  simp only [exec, execTableLoadReadCompletion, h, whenever_false]
  split <;> rfl

theorem exec_writeBack_of_not_loading {s : State} (h : s.loading = false) : exec .writeBackCompletion s = .next s := by
  simp only [exec, execWriteBackCompletion, h, whenever_false]
  split <;> rfl

/-- Every command's outcome in a loaded state is one of the two. -/
theorem exec_keptOrHanded {c : Instr} {s t : State} (hr : s.resetHeld = false) (hl : s.loaded = true)
    (hreset : ∀ k, c ≠ .reset k) (h : exec c s = .next t) : KeptOrHanded s c t := by
  have hloading : s.loading = false := by
    have hphase := loaded_iff.mp hl
    simp [State.loading, hphase]
  have hkept {u : State} (hu : TableKept s u) (hexec : exec c s = .next u) : KeptOrHanded s c t := by
    obtain rfl := Host.Outcome.next.inj (hexec.symm.trans h)
    exact .inl hu
  cases c with
  | reset k => exact absurd rfl (hreset k)
  | resetRelease => exact .inl (kept_whenever h fun hp => by rw [hr] at hp; cases hp)
  | tableLoadReadCompletion v => exact hkept (.refl s) (exec_tableRead_of_not_loading hloading v)
  | writeBackCompletion => exact hkept (.refl s) (exec_writeBack_of_not_loading hloading)
  | sampleArrival ch raw =>
    exact .inl (kept_event h ((arrive_measured (c := ch) true raw.toNat (Ev.of s)).tableKept.trans
      (recompute_tableKept _)))
  | flowPulse | muteSettleExpiry | interruptionEntryRemoval | linkHeader | frameWord | responseSent
  | sweepTimerExpiry => exact .inl (kept_whenever h fun _ => .of_image rfl rfl rfl rfl rfl)
  | flowGateExpiry => exact .inl (flowGateExpiry_kept h)
  | moduleRecoveryHoldExpiry n =>
    have hset := (setModule_moved n .on none noneWord (Ev.of s)).tableKept
    exact .inl (kept_event h ((hset.trans (rebalance_measured _).tableKept).trans (recompute_tableKept _)))
  | rampExpiry => exact .inl (rampExpiry_kept h)
  | captureReadGrant => exact .inl (captureReadGrant_kept h)
  | captureReadCompletion => exact .inl (captureReadCompletion_kept h)
  | imageWriteGrant => exact .inl (imageWriteGrant_kept h)
  | imageWriteCompletion => exact .inl (imageWriteCompletion_kept h)
  | hostLevelWriteCompletion => exact .inl (hostLevelWriteCompletion_kept h)
  | pendingChange i high => exact .inl (kept_whenever h fun _ => pinMoves_kept (by rfl) i high)
  | surgeComparatorChange r => exact .inl (kept_whenever (p := true) h fun _ => pinMoves_kept (by rfl) 4 _)
  | debouncedTransition => exact .inl (debouncedTransition_kept h)
  | proofTimerExpiry => exact .inl (proofTimerExpiry_kept h)
  | blankExpiry | systemRecoveryHoldExpiry => exact .inl (kept_event h (.of_image rfl rfl rfl rfl rfl))
  | discardedWord => exact hkept (.refl s) rfl
  | requestFrame w mark => exact .inl (requestFrame_kept (mark := mark) h)
  | stallTimerExpiry => exact .inl (stallTimerExpiry_kept h)
  | hostReadCompletion | hostWriteCompletion | snapshotTimerExpiry | snapshotWordCompletion | recordWordCompletion =>
    exact .inl (kept_event h (.of_image rfl rfl rfl rfl rfl))
  | stepPreReadCompletion => exact .inl (stepPreReadCompletion_kept h)
  | sweepCompletion => exact .inl (sweepCompletion_kept h)
  | publicationWriteGrant => exact .inl (kept_event h (grantPublication_quiet s).tableKept)
  | guardWordAWrite => exact handoff_keptOrHanded h (.inl rfl)
  | resume | standby | release | proof | commandNone | unknownCommand =>
    exact handoff_keptOrHanded h (.inr fun _ _ _ ht => isCommand_guardA ht ..)
  | hostLevelWord | consumedIndexWrite | levelEnableMaskWrite | levelAddressWrite | guardBaseStepWrite
  | surgeLevelWrite | foldSettingWrite | tripLevelWrite | presentMaskWrite | mismatchParameterWrite
  | limitCapWrite | interruptionWindowWrite =>
    exact handoff_keptOrHanded h (.inr fun _ _ _ ht => isTarget_guardA ht rfl)
  | sourceEnable | sourceDisable | sourceSettingChange =>
    exact handoff_keptOrHanded h (.inr fun _ _ _ ht => isSource_guardA ht _)
  | channelEnable | channelDisable | directionChange | persistenceLower =>
    exact handoff_keptOrHanded h (.inr fun _ _ _ ht => isChannel0_guardA ht _)
  | calibrationWrite =>
    refine handoff_keptOrHanded h (.inr fun _ _ _ ht => ?_)
    rw [isCalibration, isShiftChange, isChannel0_guardA ht, isTarget_guardA ht rfl]
    rfl
  | writeWord =>
    refine handoff_keptOrHanded (kind := fun s a w => !hasOwnRow s a w) h (.inr fun _ _ _ ht => ?_)
    simp only [hasOwnRow, ht, Bool.not_true]

end Sys2Proof.Machine
end

section
namespace Sys2Proof.Machine

open Sys2Proof Sys2Proof.Config

/-! ## What a handoff stores (R149) -/

/-- A taken configuration word, stored; a level enable mask reaches the drive image. -/
def storedBy (s : State) (t : Target) (off : Nat) (v : Word) : State :=
  if t = .levelMask then applyLevelMask (s.word off) v (s.store off v) else s.store off v

theorem storedBy_mask (s : State) (v : Word) : storedBy s .levelMask offLevelMask v =
    applyLevelMask (s.word offLevelMask) v (s.store offLevelMask v) := if_pos rfl

theorem storedBy_of_ne {s : State} {t : Target} {off : Nat} {v : Word} (h : t ≠ .levelMask) :
    storedBy s t off v = s.store off v := if_neg h

/-- A new mask bears on the records alone: the stored words are those just stored. -/
theorem storedBy_frame (s : State) (t : Target) (off : Nat) (v : Word) :
    (storedBy s t off v).shadow = (s.store off v).shadow ∧ (storedBy s t off v).straps = s.straps ∧
      (storedBy s t off v).resetHeld = s.resetHeld ∧ (storedBy s t off v).loader = s.loader := by
  unfold storedBy
  split
  · have honly := applyLevelMask_only (s.word off) v (s.store off v)
    unfold imageOnly at honly
    rw [honly]
    exact ⟨rfl, rfl, rfl, rfl⟩
  · exact ⟨rfl, rfl, rfl, rfl⟩

theorem applyPresentMask_tableKept (old new : Word) (e : Ev) : TableKept e.st (applyPresentMask old new e).st := by
  unfold applyPresentMask
  split
  · exact .refl _
  · refine TableKept.trans ?_ (rebalance_measured _).tableKept
    exact List.foldlRecOn (motive := fun e' : Ev => TableKept e.st e'.st) _ _ (.refl _)
      fun e' he' n _ => he'.trans (presentChange_moved old new e' n).tableKept

theorem applyParam_tableKept (off : Nat) (old new : Word) (e : Ev) : TableKept e.st (applyParam off old new e).st := by
  unfold applyParam
  split
  · exact (applyPresentMask_tableKept old new e).trans (recompute_tableKept _)
  split
  · exact recompute_tableKept _
  split
  · exact .of_image rfl rfl rfl rfl rfl
  split
  · exact .of_image rfl rfl rfl rfl rfl
  split
  · exact (inputChange_steered 4 _ e).tableKept
  · exact .refl _

theorem applyChannelWord_tableKept (c : Fin 25) (k : Nat) (old : ChanCfg) (e : Ev) :
    TableKept e.st (applyChannelWord c k old e).st := by
  unfold applyChannelWord
  split
  · exact (applyChannelWord0_measured c old e).tableKept
  · exact (applyFoldSetting_measured c e).tableKept
  · exact (applyFoldSetting_measured c e).tableKept
  · exact (applyFoldSetting_measured c e).tableKept
  · exact .refl _

/-- Beyond its storing, no word's handoff bears on the stored values, nor any but the mask's on the records. -/
theorem applyConfig_tableKept (s : State) (t : Target) (off : Nat) (v : Word) :
    TableKept (storedBy s t off v) (applyConfig s t off v (Ev.of s)).st := by
  unfold applyConfig
  dsimp only
  split
  · show TableKept (s.store off v) _
    exact .of_image rfl rfl rfl rfl rfl
  next p =>
    show TableKept (s.store off v) _
    exact applyParam_tableKept p (s.word off) v ((Ev.of s).upd fun s => s.store off v)
  · rw [storedBy, if_pos rfl]
    exact .refl _
  · show TableKept (s.store off v) _
    exact (applySource_steered _ _ _ _).tableKept
  next c k =>
    show TableKept (s.store off v) _
    have hword := applyChannelWord_tableKept c k.val (s.chanCfg c) ((Ev.of s).upd fun s => s.store off v)
    refine hword.trans ?_
    show TableKept _ ((if _ then recompute else id) _)
    split
    · exact recompute_tableKept _
    · exact .refl _
  next hmask _ _ =>
    rw [storedBy_of_ne hmask]
    exact .refl _

/-- What becomes of a host word: nothing is stored, or the validated word is, and forwarded. -/
theorem treat_sorted (s : State) (t : Target) (w : Word) :
    TableKept s (treat s t w).1.st ∨
    ∃ off v, t.offset = some off ∧ s.judge t w = .taken v ∧
      treat s t w = (sweepAfter t (applyConfig s t off v (Ev.of s)), .forward v .hostWrite) := by
  unfold treat
  dsimp only
  split
  · exact .inl (.refl s)
  · exact .inl (takeCommand_steered w (Ev.of s)).tableKept
  · exact .inl (.refl s)
  · exact .inl (.refl s)
  next i => exact .inl ⟨rfl, rfl, rfl, rfl, fun j => updRec_recAddr { s.image with queue := _ } i j fun _ => rfl⟩
  · exact .inl (.refl s)
  · split
    next v off hv hoff => exact .inr ⟨off, v, hoff, hv, rfl⟩
    next => exact .inl (sweepAfter_quiet t (Ev.of s)).tableKept

/-- A host word handed off: nothing is stored, or the validated word is, and forwarded. -/
theorem takeHostWord_sorted (s : State) (a w : Word) :
    TableKept s (takeHostWord s a w) ∨
    ∃ off v, (s.target a).offset = some off ∧ s.judge (s.target a) w = .taken v ∧
      TableKept (storedBy s (s.target a) off v) (takeHostWord s a w) ∧
      (takeHostWord s a w).port.inFlight = some ⟨.hostWrite, a, .write v⟩ := by
  have hdisposed (d : Disposal) (x : State) := (dispose_quiet a w d x).tableKept
  rcases treat_sorted s (s.target a) w with h | ⟨off, v, hoff, hv, htreat⟩
  · exact .inl (conclude_tableKept (e := (treat s (s.target a) w).1.upd (dispose a w (treat s (s.target a) w).2))
      (h.trans (hdisposed _ _)) s)
  · refine .inr ⟨off, v, hoff, hv, ?_, ?_⟩
    · rw [takeHostWord, htreat]
      refine conclude_tableKept ?_ s
      exact ((applyConfig_tableKept s (s.target a) off v).trans (sweepAfter_quiet _ _).tableKept).trans
        (hdisposed (.forward v .hostWrite) _)
    · rw [takeHostWord_forward htreat]
      rfl

/-- R68: an enabled entry's address word is locked. -/
theorem levelAddr_of_taken {s : State} {a v w : Word} {i : Fin 9}
    (hoff : (s.target a).offset = some (offLevelAddr i.val))
    (hv : s.judge (s.target a) w = .taken v) : bit (s.word offLevelMask) i.val = false := by
  obtain ⟨ht, -⟩ := target_offset hoff
  rw [ht, configTarget_levelAddr] at hv
  cases hb : bit (s.word offLevelMask) i.val
  · rfl
  · simp only [State.judge, hb, if_true] at hv
    cases hv

/-- The mask's target is the offset's. -/
theorem target_mask_iff {s : State} {a : Word} {off : Nat} (hoff : (s.target a).offset = some off) :
    s.target a = .levelMask ↔ off = offLevelMask := by
  obtain ⟨ht, -⟩ := target_offset hoff
  constructor
  · intro h
    rw [h] at hoff
    exact (Option.some.inj hoff).symm
  · rintro rfl
    exact ht

/-! ## The start-up invariant over every step -/

/-- From load completion on the invariant speaks of the stored values and of the level records' addresses. -/
def tableRight (s : State) : Prop :=
  validUpTo 0x121 s ∧ ∀ i : Fin 9, recAddr s.image i =
    if bit (s.word offLevelMask) i.val = true then some (s.levelAddr i) else none

theorem levelRecord_iff {o : Option LevelRec} {b : Bool} {a : Word} :
    (o.isSome = b ∧ ∀ r, o = some r → r.addr = a) ↔ o.map LevelRec.addr = if b = true then some a else none := by
  cases o <;> cases b <;> simp

theorem startUpRight_iff_of_loaded {s : State} (hr : s.resetHeld = false) (hl : s.loaded = true) :
    startUpRight s ↔ tableRight s := by
  have hphase := loaded_iff.mp hl
  constructor
  · rintro ⟨-, -, hshadow, hlevels⟩
    exact ⟨hshadow.2 hl, fun i => levelRecord_iff.mp (hlevels hl i)⟩
  · rintro ⟨hvalid, haddr⟩
    refine ⟨fun h => ?_, ⟨fun h => ?_, fun h => ?_⟩, ⟨fun h => ?_, fun _ => hvalid⟩,
      fun _ i => levelRecord_iff.mpr (haddr i)⟩
    · rw [hr] at h; cases h
    · rw [hr] at h; cases h
    · rw [hl] at h; cases h
    · rw [hphase] at h; cases h

theorem TableKept.loaded {s t : State} (h : TableKept s t) : t.loaded = s.loaded := by
  rw [State.loaded, State.loaded, h.loader]

theorem TableKept.tableRight {s t : State} (h : TableKept s t) (hs : tableRight s) : tableRight t := by
  obtain ⟨hvalid, haddr⟩ := hs
  refine ⟨hvalid.congr h.shadow h.straps, fun i => ?_⟩
  rw [h.addrs, word_congr h.shadow, levelAddr_congr h.shadow]
  exact haddr i

/-- R65 to R67: the address of a record after a new mask. -/
theorem recAddr_applyLevelMask (old new : Word) (s : State) (i : Fin 9) :
    recAddr (applyLevelMask old new s).image i =
      if bit old i.val = true then if bit new i.val = true then recAddr s.image i else none
      else if bit new i.val = true then some (s.levelAddr i) else recAddr s.image i := by
  rw [recAddr, applyLevelMask_recs]
  by_cases hold : bit old i.val = true
  · by_cases hset : bit new i.val = true <;> simp [onlyIn, hold, hset, recAddr]
  · by_cases hset : bit new i.val = true <;> simp [onlyIn, hold, hset, recAddr, newRecord]

/-- R65 to R67, R149: a taken mask leaves the enabled entries apart, each with its record. -/
theorem storedBy_mask_tableRight {s : State} (hs : tableRight s) (w : Word) :
    tableRight (storedBy s .levelMask offLevelMask (validLevelMask s (s.word offLevelMask) w)) := by
  obtain ⟨⟨hwords, hentries⟩, haddr⟩ := hs
  obtain ⟨hbits, hfree⟩ := entriesApart_iff.mp (hentries (by decide))
  generalize hv : validLevelMask s (s.word offLevelMask) w = v
  obtain ⟨hshadow, hstraps, -⟩ := storedBy_frame s .levelMask offLevelMask v
  obtain ⟨hnew, hothers⟩ := wordStored_store (s := s) v (off := offLevelMask) (by decide) (by decide)
  have hkept (i : Fin 9) : (s.store offLevelMask v).levelAddr i = s.levelAddr i :=
    levelAddr_store_of_ne (by decide) v (by simp only [offLevelMask, offLevelAddr]; omega)
  have hstored : validUpTo 0x121 (s.store offLevelMask v) := by
    refine ⟨fun k h1 hn hmask => ?_, fun _ => hv ▸ entriesApart_storeMask hfree w rfl rfl⟩
    rw [hothers k h1 hmask]
    exact hwords k h1 hn hmask
  refine ⟨hstored.congr hshadow hstraps, fun i => ?_⟩
  have hrec : recAddr (s.store offLevelMask v).image i = _ := haddr i
  rw [word_congr hshadow, levelAddr_congr hshadow, hnew, hkept, storedBy_mask, recAddr_applyLevelMask, hkept, hrec]
  by_cases hold : bit (s.word offLevelMask) i.val = true
  · simp only [hold, if_true]
  · simp only [hold, Bool.false_eq_true, if_false]

/-- R68, R149: any other taken word is valid, and is no enabled entry's address. -/
theorem storedBy_word_tableRight {s : State} {a v w : Word} {off : Nat} (hs : tableRight s)
    (hoff : (s.target a).offset = some off) (hv : s.judge (s.target a) w = .taken v) (hmask : off ≠ offLevelMask) :
    tableRight (s.store off v) := by
  obtain ⟨ht, h1, hlast⟩ := target_offset hoff
  obtain ⟨hvalid, haddr⟩ := hs
  have hlocked (i : Fin 9) (hi : bit (s.word offLevelMask) i.val = true) : off ≠ offLevelAddr i.val := by
    rintro rfl
    rw [levelAddr_of_taken hoff hv] at hi
    cases hi
  have hnot : s.target a ≠ .levelMask := mt (target_mask_iff hoff).mp hmask
  refine ⟨hvalid.store h1 hlast hmask (loadValue_of_taken ht.symm hnot hv) fun _ => hlocked, fun i => ?_⟩
  have hkept : (s.store off v).word offLevelMask = s.word offLevelMask :=
    (wordStored_store v h1 hlast).2 _ (by decide) hmask.symm
  rw [hkept]
  refine (haddr i).trans ?_
  split
  next hi => rw [levelAddr_store_of_ne h1 v (hlocked i hi)]
  next => rfl

theorem takeHostWord_tableRight {s : State} (hs : tableRight s) (a w : Word) : tableRight (takeHostWord s a w) := by
  rcases takeHostWord_sorted s a w with h | ⟨off, v, hoff, hv, h, -⟩
  · exact h.tableRight hs
  · refine h.tableRight ?_
    by_cases hmask : off = offLevelMask
    · subst hmask
      have ht := (target_mask_iff hoff).mpr rfl
      rw [ht] at hv ⊢
      obtain rfl := Judged.taken.inj hv
      exact storedBy_mask_tableRight hs w
    · rw [storedBy_of_ne (mt (target_mask_iff hoff).mp hmask)]
      exact storedBy_word_tableRight hs hoff hv hmask

theorem takeHostWord_loader (s : State) (a w : Word) :
    (takeHostWord s a w).resetHeld = s.resetHeld ∧ (takeHostWord s a w).loader = s.loader := by
  rcases takeHostWord_sorted s a w with h | ⟨off, v, -, -, h, -⟩
  · exact ⟨h.resetHeld, h.loader⟩
  · obtain ⟨-, -, hr, hl⟩ := storedBy_frame s (s.target a) off v
    exact ⟨h.resetHeld.trans hr, h.loader.trans hl⟩

/-! ### Every command -/

/-- The reset state is right. -/
theorem startUpRight_of_held {s : State} (h : heldInReset s) (hr : s.resetHeld = true) : startUpRight s := by
  have hs := h hr
  have hphase : s.loader.phase = .notBegun := by rw [hs]; rfl
  have hunloaded : s.loaded = false := by simp [State.loaded, hphase]
  have hrest : resting s := by
    rw [hs]
    exact ⟨rfl, rfl, rfl, rfl, rfl, rfl, rfl, rfl, rfl, rfl, LinkState.noConfusion⟩
  refine ⟨h, ⟨fun _ => hunloaded, fun _ => hrest⟩, ⟨fun hrun => ?_, fun hl => ?_⟩, fun hl => ?_⟩
  · rw [hphase] at hrun; cases hrun
  · rw [hunloaded] at hl; cases hl
  · rw [hunloaded] at hl; cases hl

theorem startUpRight.resting {s : State} (h : startUpRight s) (hl : s.loaded = false) : resting s := by
  obtain ⟨-, ⟨-, hrest⟩, -⟩ := h
  exact hrest hl

section Command
variable {s t : State}

/-- The input pins are not the reset's to fix. -/
theorem pinned_heldInReset (h : heldInReset s) (hr : s.resetHeld = true) (hp : pinned s t) : heldInReset t := by
  intro _
  have hkind : t.resetKind = s.resetKind := by rw [hp]
  have hpending : t.pending = s.pending := by rw [hp]
  rw [hkind, hpending]
  exact hp.trans (congrArg (fun x : State =>
    { x with arc := { x.arc with lines := t.arc.lines, surgeInput := t.arc.surgeInput } }) (h hr))

/-- While the reset input is held only RESET, its release and the two input pins act. -/
theorem exec_startUpRight_of_held {c : Instr} (hs : startUpRight s) (hr : s.resetHeld = true)
    (hreset : ∀ k, c ≠ .reset k) (h : exec c s = .next t) : startUpRight t := by
  have hheld := hs.1
  have hpins {u : State} (hu : pinned s u) : startUpRight u :=
    startUpRight_of_held (pinned_heldInReset hheld hr hu) (by rw [hu]; exact hr)
  by_cases hrelease : ∃ b, c = .resetRelease b
  · obtain ⟨b, rfl⟩ := hrelease
    exact resetRelease_startUpRight hheld hr h
  by_cases hline : ∃ i high, c = .pendingChange i high
  · obtain ⟨i, high, rfl⟩ := hline
    have hexec : whenever (i.val < 4) s _ = .next t := h
    rw [if_pos hr] at hexec
    cases hlow : decide (i.val < 4)
    · rw [hlow] at hexec; cases hexec; exact hs
    · rw [hlow] at hexec; cases hexec; exact hpins rfl
  by_cases hsurge : ∃ r, c = .surgeComparatorChange r
  · obtain ⟨r, rfl⟩ := hsurge
    have hexec : Host.Outcome.next (if s.resetHeld then setSurge r s else _) = .next t := h
    rw [if_pos hr] at hexec
    cases hexec
    exact hpins rfl
  · rw [exec_of_held hr hreset (fun b hb => hrelease ⟨b, hb⟩) (fun i k hk => hline ⟨i, k, hk⟩)
      fun r hr => hsurge ⟨r, hr⟩] at h
    cases h
    exact hs

section Unloaded
variable (hs : startUpRight s) (hr : s.resetHeld = false) (hl : s.loaded = false)
include hs hr hl

/-- The completion of a read goes on with the load; no other access of the load is in flight with it. -/
theorem tableLoadReadCompletion_startUpRight {v : Word} (h : exec (.tableLoadReadCompletion v) s = .next t) :
    startUpRight t := by
  obtain ⟨-, hstart, hshadow, -⟩ := id hs
  cases hload : s.loading
  · rw [exec_tableRead_of_not_loading hload] at h
    cases h; exact hs
  · obtain ⟨-, hrun⟩ := loading_iff.mp hload
    obtain ⟨hlow, hhigh, hclass1, ⟨p, a, k⟩, hx, ⟨hp, hvalid⟩ | ⟨⟨o, hp⟩, -⟩⟩ := (shadowRight_iff.mp hshadow).1 hrun
    · subst hp
      rw [exec_tableRead hload hx] at h
      cases h
      exact tableRead_startUpRight hr hrun (hstart.2 hl) hlow hhigh hclass1 hvalid v
    · subst hp
      simp only [exec, execTableLoadReadCompletion, hx] at h
      cases h; exact hs

theorem writeBackCompletion_startUpRight (h : exec .writeBackCompletion s = .next t) : startUpRight t := by
  obtain ⟨-, hstart, hshadow, -⟩ := id hs
  cases hload : s.loading
  · rw [exec_writeBack_of_not_loading hload] at h
    cases h; exact hs
  · obtain ⟨-, hrun⟩ := loading_iff.mp hload
    obtain ⟨hlow, hhigh, hclass1, ⟨p, a, k⟩, hx, ⟨hp, -⟩ | ⟨⟨o, hp⟩, hvalid⟩⟩ := (shadowRight_iff.mp hshadow).1 hrun
    · subst hp
      simp only [exec, execWriteBackCompletion, hx] at h
      cases h; exact hs
    · subst hp
      rw [exec_writeBack hload hx] at h
      cases h
      exact writeBack_startUpRight hr hrun (hstart.2 hl) hlow hhigh hclass1 hvalid

/-- Before load completion: the load goes on, or what comes waits. -/
theorem exec_startUpRight_of_unloaded {c : Instr} (hreset : ∀ k, c ≠ .reset k) (h : exec c s = .next t) :
    startUpRight t := by
  by_cases hread : ∃ v, c = .tableLoadReadCompletion v
  · obtain ⟨v, rfl⟩ := hread
    exact tableLoadReadCompletion_startUpRight hs hr hl h
  by_cases hback : c = .writeBackCompletion
  · subst hback
    exact writeBackCompletion_startUpRight hs hr hl h
  · exact (exec_waits (hs.resting hl) hr hl hreset (fun v hv => hread ⟨v, hv⟩) hback h).startUpRight hr hl hs

end Unloaded

/-- From load completion on. -/
theorem exec_startUpRight_of_loaded {c : Instr} (hs : startUpRight s) (hr : s.resetHeld = false)
    (hl : s.loaded = true) (hreset : ∀ k, c ≠ .reset k) (h : exec c s = .next t) : startUpRight t := by
  have hright := (startUpRight_iff_of_loaded hr hl).mp hs
  rcases exec_keptOrHanded hr hl hreset h with hkept | ⟨a, w, -, rfl, -⟩
  · exact (startUpRight_iff_of_loaded (hkept.resetHeld.trans hr) (hkept.loaded.trans hl)).mpr (hkept.tableRight hright)
  · obtain ⟨hheld, hloader⟩ := takeHostWord_loader s a w
    have hloaded : (takeHostWord s a w).loaded = true := by rw [State.loaded, hloader]; exact hl
    exact (startUpRight_iff_of_loaded (hheld.trans hr) hloaded).mpr (takeHostWord_tableRight hright a w)

/-- Every command keeps the invariant. -/
theorem exec_startUpRight {c : Instr} (hs : startUpRight s) (h : exec c s = .next t) : startUpRight t := by
  by_cases hreset : ∃ k, c = .reset k
  · obtain ⟨k, rfl⟩ := hreset
    cases h
    exact startUpRight_of_held (fun _ => rfl) rfl
  have hreset' : ∀ k, c ≠ .reset k := fun k hk => hreset ⟨k, hk⟩
  cases hr : s.resetHeld
  · cases hl : s.loaded
    · exact exec_startUpRight_of_unloaded hs hr hl hreset' h
    · exact exec_startUpRight_of_loaded hs hr hl hreset' h
  · exact exec_startUpRight_of_held hs hr hreset' h

/-- What leaves the stored values alone keeps the invariant, if it is told of the reset and of what rests. -/
theorem startUpRight_of_kept (hs : startUpRight s) (hheld : s.resetHeld = true → heldInReset t)
    (hwaits : s.resetHeld = false → s.loaded = false → Waits s t) (hkept : TableKept s t) : startUpRight t := by
  cases hr : s.resetHeld
  · cases hl : s.loaded
    · exact (hwaits hr hl).startUpRight hr hl hs
    · exact (startUpRight_iff_of_loaded (hkept.resetHeld.trans hr) (hkept.loaded.trans hl)).mpr
        (hkept.tableRight ((startUpRight_iff_of_loaded hr hl).mp hs))
  · exact startUpRight_of_held (hheld hr) (hkept.resetHeld.trans hr)

/-- Time that passes keeps it too: in reset it stands, and an interruption list that is at rest is empty. -/
theorem idle_startUpRight (hs : startUpRight s) : startUpRight (idle s) := by
  refine startUpRight_of_kept hs (fun hr => ?_) (fun hr hl => ?_) ?_
  · have hsame : idle s = s := by simp [idle, tick, State.removalDue, hr]
    rw [hsame]
    exact hs.1
  · obtain ⟨-, -, -, -, -, -, -, hctl, -⟩ := hs.resting hl
    have hdue : s.removalDue = false := by rw [State.removalDue, hctl]; simp [Controller.reset]
    have htick : idle s = { s with ms := s.ms + 1 } := by simp [idle, tick, hdue, hr]
    rw [htick]
    exact .of_pins rfl
  · unfold idle tick
    split
    · exact .of_image rfl rfl rfl rfl rfl
    · split
      · exact .refl s
      · exact .of_image rfl rfl rfl rfl rfl

end Command

/-- The queue of commands is no part of it. -/
theorem startUpRight_pending {s : State} (h : startUpRight s) (rest : List Instr) :
    startUpRight { s with pending := rest } :=
  startUpRight_of_kept h (fun hr _ => congrArg (fun x : State => { x with pending := rest }) (h.1 hr))
    (fun _ _ => ⟨rfl, id, fun _ => rfl⟩) (.of_image rfl rfl rfl rfl rfl)

/-- Settles O52: by how far the start-up has come. -/
theorem startUpInvariant : Obligations.StartUpInvariant := by
  intro s t hs hstep
  unfold step at hstep
  split at hstep
  next =>
    cases hstep
    exact idle_startUpRight hs
  next rest _ => exact exec_startUpRight (startUpRight_pending hs rest) hstep

end Sys2Proof.Machine
end

section
namespace Sys2Proof.Machine

open Sys2Proof Sys2Proof.Config

/-! ## Stored settings change only at handoffs (R143, R144, R148, R149) -/

/-- Command `c` hands off the host's word `w` to address `a`; its validated value `v` is stored at `off` and
forwarded. A guard entry's word A has a row of its own. -/
structure HandsOff (s : State) (c : Instr) (a w : Word) (off : Nat) (v : Word) (t : State) : Prop where
  offered : s.handoffWord = some (a, w)
  offset : (s.target a).offset = some off
  taken : s.judge (s.target a) w = .taken v
  stored : wordStored off v s t
  forwarded : t.port.inFlight = some ⟨.hostWrite, a, .write v⟩
  row : ∀ g, s.target a = .guardA g → c = .guardWordAWrite

/-- From load completion on a command leaves the stored values, or hands off a word to one of them. -/
theorem exec_stores {c : Instr} {s t : State} (hr : s.resetHeld = false) (hl : s.loaded = true)
    (hreset : ∀ k, c ≠ .reset k) (h : exec c s = .next t) :
    t.shadow = s.shadow ∨ ∃ a w off v, HandsOff s c a w off v t := by
  rcases exec_keptOrHanded hr hl hreset h with hkept | ⟨a, w, hw, rfl, hrow⟩
  · exact .inl hkept.shadow
  rcases takeHostWord_sorted s a w with hkept | ⟨off, v, hoff, hv, hkept, hforward⟩
  · exact .inl hkept.shadow
  · obtain ⟨-, h1, hlast⟩ := target_offset hoff
    have hshadow := hkept.shadow.trans (storedBy_frame s (s.target a) off v).1
    exact .inr ⟨a, w, off, v, hw, hoff, hv, wordStored_congr hshadow (wordStored_store v h1 hlast), hforward, hrow⟩

section Changed
variable {s t : State} {c : Instr} {a w v : Word} {off : Nat} (h : HandsOff s c a w off v t)
include h

/-- Only the word the handoff is to can change. -/
theorem HandsOff.eq_of_changed {k : Nat} (hk : 1 ≤ k) (hne : t.word k ≠ s.word k) : k = off := by
  by_contra hother
  exact hne (h.stored.2 k hk hother)

/-- R143, R144: of an enabled entry the words B and C are HELD, and word A is unless it disables the entry. -/
theorem HandsOff.unlocked {g : Fin 16} (hg : bit (s.word (offGuardA g.val)) 0 = true) :
    off ≠ offGuardB g.val ∧ off ≠ offGuardC g.val ∧
      (off = offGuardA g.val → c = .guardWordAWrite ∧ bit v 0 = false) := by
  obtain ⟨ht, -⟩ := target_offset h.offset
  have htaken := h.taken
  have hrow := h.row
  obtain ⟨hA, hB, hC⟩ := configTarget_guard g
  rw [ht] at htaken hrow
  refine ⟨?_, ?_, ?_⟩
  · rintro rfl
    rw [hB, judge_guardB, if_pos hg] at htaken
    cases htaken
  · rintro rfl
    rw [hC, judge_guardC, if_pos hg] at htaken
    cases htaken
  · rintro rfl
    refine ⟨hrow g hA, ?_⟩
    rw [hA, judge_guardA] at htaken
    split at htaken
    next => cases htaken
    next henables =>
      obtain rfl := Judged.taken.inj htaken
      have hclear : bit w 0 = false := Bool.eq_false_of_not_eq_true fun hw => henables ⟨hg, hw⟩
      rw [bit_and, hclear, Bool.false_and]

end Changed

/-- Settles O60: a stored value that changes is the one the command hands a word to. -/
theorem storedSettingsChangeOnlyAtHandoffs : Obligations.StoredSettingsChangeOnlyAtHandoffs := by
  intro c s t hl hr hreset h
  rcases exec_stores hr hl hreset h with hsame | ⟨a, w, off, v, hand⟩
  · have hword (k : Nat) : t.word k = s.word k := word_congr hsame k
    exact ⟨fun k _ _ hne => absurd (hword k) hne, fun g _ => ⟨hword _, hword _, .inl (hword _)⟩⟩
  obtain ⟨hnew, hothers⟩ := hand.stored
  refine ⟨fun k h1 _ hne => ?_, fun g hg => ?_⟩
  · obtain rfl := hand.eq_of_changed h1 hne
    exact ⟨a, w, hand.offered, hand.offset, hnew ▸ hand.forwarded, hothers⟩
  · obtain ⟨hB, hC, hA⟩ := hand.unlocked hg
    refine ⟨hothers _ (by omega) hB.symm, hothers _ (by omega) hC.symm, ?_⟩
    by_cases hoff : off = offGuardA g.val
    · subst hoff
      obtain ⟨hc, hbit⟩ := hA rfl
      exact .inr ⟨hc, hnew ▸ hbit⟩
    · exact .inl (hothers _ (by omega) fun h => hoff h.symm)

end Sys2Proof.Machine
end

section
namespace Sys2Proof.Machine

open Sys2Proof Sys2Proof.Config

/-! ## The state after power-on reset -/

theorem reset_not_loaded {P : Prop} (h : State.reset.loaded = true) : P := by
  rw [show State.reset.loaded = false from rfl] at h
  exact absurd h Bool.false_ne_true

/-- The start-up invariant at reset: nothing has begun to load. -/
theorem reset_startUp : heldInReset State.reset ∧ startsAtLoad State.reset ∧ shadowRight State.reset ∧
    levelsRight State.reset :=
  ⟨fun _ => rfl,
    ⟨fun _ => rfl, fun _ => ⟨rfl, rfl, rfl, rfl, rfl, rfl, rfl, rfl, rfl, rfl, LinkState.noConfusion⟩⟩,
    ⟨LoadPhase.noConfusion, reset_not_loaded⟩, reset_not_loaded⟩

/-- No channel is tripped at reset, and the cause set is empty. -/
theorem reset_causes : causesRight State.reset :=
  ⟨by decide, rfl, rfl⟩

theorem reset_rfSafe : rfSafe State.reset :=
  ⟨rfl, Bool.false_ne_true.elim, fun _ => rfl, Nat.le_refl _, fun h => absurd rfl h⟩

/-- At reset there is no level record and nothing to write. -/
theorem reset_image : imageRight State.reset := by
  refine ⟨List.nodup_nil, fun e he => absurd he List.not_mem_nil, fun i r hr => ?_⟩
  have hnone : State.reset.image.recs[i] = none := by simp [State.reset, Image.reset]
  rw [hnone] at hr
  exact absurd hr.symm (Option.some_ne_none r)

/-- Settles O58: from load completion on nothing is asked at reset, and the blocks' figures meet the rest. -/
theorem resetMeetsTheInvariants : Obligations.ResetMeetsTheInvariants := by
  obtain ⟨hinterruptions, hrecords⟩ := listsRight_reset .powerOn Arc.reset []
  exact ⟨reset_startUp, ⟨reset_not_loaded, reset_not_loaded, reset_causes⟩, reset_rfSafe,
    ceilingsRight_of_reset rfl rfl rfl rfl, reset_image, hinterruptions, hrecords, settle_of_held rfl⟩

end Sys2Proof.Machine
end

section
/-! # Publication and the passage of time (chapter 10, sections 6.3 and 11.3)

The submission of records, the completions and the grants of publication writes, the words of the status block,
and what every command leaves of the counter and of the queue. -/

namespace Sys2Proof.Machine

open Sys2Proof Sys2Proof.Config

/-! ## The test of the ring (R163) -/

/-- No record is in progress and the ring is full, so no record can wait. -/
def stuck (consumed : Word) (p : Publication) : Prop := p.current = none ∧ ringFull consumed p = true

theorem ringTest_stuck {w : Word} {p : Publication} (h : stuck w p) :
    ringTest w p = { p with fifo := [], lost := min 65535 (p.lost + p.fifo.length) } :=
  if_pos (by rw [h.1, h.2]; rfl)

theorem ringTest_not_stuck {w : Word} {p : Publication} (h : ¬stuck w p) : ringTest w p = p :=
  if_neg fun hs => h (by simpa [stuck] using hs)

/-- The ring is full for a consumed index of any size, which counts modulo 32. -/
theorem ringFull_iff_mod {w : Word} {p : Publication} :
    ringFull w p = true ↔ (p.writeIndex.val + 1) % 32 = w.toNat % 32 := by
  rw [ringFull, beq_iff_eq, Fin.ext_iff, Fin.val_add, Fin.val_ofNat]
  rfl

/-! ## The submission of records (R162, R163) -/

/-- Composed records, submitted one after the other. -/
def submitRecords (consumed : Word) (rs : List Record) (p : Publication) : Publication :=
  rs.foldl (fun p r => submit consumed r p) p

/-- R162: each draft is composed with the counter and the controller's state as the event leaves them. -/
theorem submitAll_pub (ds : List Draft) (s : State) :
    (submitAll ds s).pub =
      submitRecords (s.word offConsumed) (ds.map fun d => ⟨d, s.ms, s.ctl.state⟩) s.pub := by
  rw [submitRecords, List.foldl_map]
  rfl

/-- Only the FIFO and the lost count take part in a submission. -/
theorem submitRecords_frame (w : Word) (rs : List Record) (p : Publication) : submitRecords w rs p =
    { p with fifo := (submitRecords w rs p).fifo, lost := (submitRecords w rs p).lost } := by
  refine List.foldlRecOn (motive := fun x : Publication => x = { p with fifo := x.fifo, lost := x.lost })
    rs _ rfl fun x hx r _ => ?_
  rcases submit_cases w r x with h | h | h <;> rw [h, hx]

section Free
variable {w : Word} {p : Publication}

theorem submit_room (h : ¬stuck w p) (hroom : p.fifo.length < 8) (r : Record) :
    submit w r p = { p with fifo := p.fifo ++ [r] } :=
  (if_pos hroom).trans (ringTest_not_stuck (p := { p with fifo := p.fifo ++ [r] }) h)

theorem submit_full (h : 8 ≤ p.fifo.length) (r : Record) :
    submit w r p = { p with lost := min 65535 (p.lost + 1) } :=
  if_neg (Nat.not_lt.mpr h)

end Free

/-- Where records can wait, those for which the FIFO has room join it and the others are counted. -/
theorem submitRecords_not_stuck {w : Word} (rs : List Record) {p : Publication} (h : ¬stuck w p)
    (hlost : p.lost ≤ 65535) :
    (submitRecords w rs p).fifo = p.fifo ++ rs.take (8 - p.fifo.length) ∧
      (submitRecords w rs p).lost = min 65535 (p.lost + (rs.length - (8 - p.fifo.length))) := by
  induction rs generalizing p with
  | nil => exact ⟨by simp [submitRecords], by simp [submitRecords, hlost]⟩
  | cons r rs ih =>
    have hcons : submitRecords w (r :: rs) p = submitRecords w rs (submit w r p) := rfl
    rw [hcons]
    by_cases hroom : p.fifo.length < 8
    · rw [submit_room h hroom]
      obtain ⟨hfifo, hcount⟩ := ih (p := { p with fifo := p.fifo ++ [r] }) h hlost
      rw [hfifo, hcount]
      have hleft : 8 - p.fifo.length = 8 - (p.fifo ++ [r]).length + 1 := by simp; omega
      rw [hleft]
      exact ⟨by simp, by simp⟩
    · have hfull : 8 ≤ p.fifo.length := Nat.not_lt.mp hroom
      rw [submit_full hfull]
      obtain ⟨hfifo, hcount⟩ := ih (p := { p with lost := min 65535 (p.lost + 1) }) h (Nat.min_le_left _ _)
      rw [hfifo, hcount]
      simp only [Nat.sub_eq_zero_of_le hfull, List.length_cons]
      exact ⟨rfl, by omega⟩

/-- Where no record can wait, a submission drops what waited with the record submitted. -/
theorem submit_stuck {w : Word} {p : Publication} (h : stuck w p) (hroom : p.fifo.length < 8) (r : Record) :
    submit w r p = { p with fifo := [], lost := min 65535 (p.lost + p.fifo.length + 1) } := by
  refine (if_pos hroom).trans ((ringTest_stuck (p := { p with fifo := p.fifo ++ [r] }) h).trans ?_)
  simp [Nat.add_assoc]

/-- Where no record can wait and none does, every record submitted is counted. -/
theorem submitRecords_stuck_empty {w : Word} (rs : List Record) {p : Publication} (h : stuck w p)
    (hfifo : p.fifo = []) (hlost : p.lost ≤ 65535) :
    submitRecords w rs p = { p with lost := min 65535 (p.lost + rs.length) } := by
  induction rs generalizing p with
  | nil => simp [submitRecords, hlost]
  | cons r rs ih =>
    have hcons : submitRecords w (r :: rs) p = submitRecords w rs (submit w r p) := rfl
    have hone : submit w r p = { p with lost := min 65535 (p.lost + 1) } := by
      rw [submit_stuck h (by simp [hfifo]), ← hfifo]
      simp [hfifo]
    rw [hcons, hone, ih (p := { p with lost := min 65535 (p.lost + 1) }) h hfifo (Nat.min_le_left _ _)]
    congr 1
    simp only [List.length_cons]
    omega

/-- Where no record can wait, the records submitted are counted beside those that waited. -/
theorem submitRecords_stuck {w : Word} {rs : List Record} {p : Publication} (h : stuck w p) (hne : rs ≠ [])
    (hroom : p.fifo.length < 8) : submitRecords w rs p =
      { p with fifo := [], lost := min 65535 (p.lost + p.fifo.length + rs.length) } := by
  obtain ⟨r, rest, rfl⟩ := List.exists_cons_of_ne_nil hne
  have hcons : submitRecords w (r :: rest) p = submitRecords w rest (submit w r p) := rfl
  rw [hcons, submit_stuck h hroom, submitRecords_stuck_empty rest (p := { p with fifo := [], lost := _ }) h rfl
    (Nat.min_le_left _ _)]
  congr 1
  simp only [List.length_cons]
  omega

/-- Settles O51: by whether the ring lets a record wait. -/
theorem recordsAreQueuedOrCounted : Obligations.RecordsAreQueuedOrCounted := by
  intro ds s t isStuck made room
  have hpub : t.pub = submitRecords (s.word offConsumed) made s.pub := submitAll_pub ds s
  have hcount : made.length = ds.length := List.length_map _
  rw [hpub, ← hcount]
  refine ⟨?_, submitRecords_not_stuck made, fun hs hne _ hroom => ?_⟩
  · have hframe : t = { s with pub := t.pub } := rfl
    rw [← submitRecords_frame, ← hpub]
    exact hframe
  · rw [submitRecords_stuck hs (by simpa [made] using hne) hroom]
    exact ⟨rfl, rfl⟩

/-! ## The completions of publication writes (R160, R163, R164) -/

/-- The completion of a publication write frees the port and leaves the publication unit at `x`. -/
theorem publication_completes {s : State} {p : Purpose} {a : Word} {k : AccessKind} (hr : s.resetHeld = false)
    (hport : s.port.inFlight = some ⟨p, a, k⟩) (x : Publication) :
    whenever (s.completing p) s (conclude s ⟨{ s.portFree with pub := x }, []⟩) =
      .next (settle { s with port := { s.port with inFlight := none }, pub := x }) := by
  rw [completing_eq hr hport, beq_self_eq_true]
  exact congrArg Host.Outcome.next (conclude_of_ceil rfl rfl)

/-- R163, R164: the completion of a record's last word. -/
theorem recordDone_last {alertMask consumed : Word} {p : Publication} {r : Record} (h : p.current = some ⟨r, 8⟩) :
    let full := (p.writeIndex.val + 2) % 32 = consumed.toNat % 32
    recordDone alertMask consumed p = { p with
      current := none
      writeIndex := p.writeIndex + 1
      serial := p.serial + 1
      alert := p.alert || bit alertMask (r.draft.kind.code - 1)
      fifo := if full then [] else p.fifo
      lost := if full then min 65535 (p.lost + p.fifo.length) else p.lost } := by
  intro full
  let done : Publication := { p with
    current := none, writeIndex := p.writeIndex + 1, serial := p.serial + 1
    alert := p.alert || bit alertMask (r.draft.kind.code - 1) }
  have htest : recordDone alertMask consumed p = ringTest consumed done := by
    simp only [recordDone, h, if_true]
    rfl
  have hstuck : stuck consumed done ↔ full := by
    have hnext : (done.writeIndex.val + 1) % 32 = (p.writeIndex.val + 2) % 32 := by
      show ((p.writeIndex + 1).val + 1) % 32 = _
      rw [Fin.val_add]
      simp
    rw [stuck, ringFull_iff_mod, hnext]
    exact and_iff_right rfl
  rw [htest]
  by_cases hfull : full
  · rw [ringTest_stuck (hstuck.mpr hfull), if_pos hfull, if_pos hfull]
  · rw [ringTest_not_stuck (mt hstuck.mp hfull), if_neg hfull, if_neg hfull]

/-- Settles O50: the last word of each kind, and any other. -/
theorem publicationWritesComplete : Obligations.PublicationWritesComplete := by
  intro s a k hr free
  refine ⟨fun hport x hx => ?_, fun hport r n hc => ?_⟩
  · have hexec : exec .snapshotWordCompletion s = .next (settle (free (snapshotDone s.pub))) :=
      publication_completes hr hport _
    rw [hexec]
    refine ⟨fun hn => ?_, fun hn => ?_⟩
    · have hsame : snapshotDone s.pub = s.pub := by
        simp only [snapshotDone, hx]
        exact if_neg hn
      rw [hsame]
    · have hlast : snapshotDone s.pub = { s.pub with snapshot := none, seq := s.pub.seq + 2 } := by
        simp only [snapshotDone, hx]
        exact if_pos hn
      rw [hlast]
  · have hexec : exec .recordWordCompletion s =
        .next (settle (free (recordDone (s.word offAlertMask) (s.word offConsumed) s.pub))) :=
      publication_completes hr hport _
    rw [hexec]
    refine ⟨fun hn => ?_, ?_⟩
    · have hsame : recordDone (s.word offAlertMask) (s.word offConsumed) s.pub = s.pub := by
        simp only [recordDone, hc]
        exact if_neg hn
      rw [hsame]
    · rintro rfl full
      rw [recordDone_last hc]
      rfl

end Sys2Proof.Machine
end

section
namespace Sys2Proof.Machine

open Sys2Proof Sys2Proof.Config

/-! ## The grants of publication writes (R160, R161, R163) -/

/-- R161: a grant with no other class at work bears on the publication unit and the port alone. -/
theorem exec_publicationWriteGrant {s : State} (hr : s.resetHeld = false) (hport : s.port = ⟨none, []⟩)
    (hqueue : s.image.queue = []) (hhost : s.hostWork = false) :
    exec .publicationWriteGrant s = .next (settle (grantPublication s)) := by
  have hceil : (grantPublication s).ceil = s.ceil := (grantPublication_quiet s).ceil
  exact (whenever_of (by simp [State.portIdle, hr, hport, hqueue, hhost])).trans
    (congrArg Host.Outcome.next (conclude_upd hceil))

/-- An access begun leaves the arbiter nothing to grant. -/
theorem settle_begin {x : State} (hport : x.port.class1 = []) (p : Purpose) (a : Word) (k : AccessKind) :
    settle (x.begin p a k) = { x with port := ⟨some ⟨p, a, k⟩, []⟩ } := by
  rw [settle_of_busy (by simp), begin_of_empty hport]

/-- A record's words, taken from the list of all eight. -/
theorem recordWord_of_getElem? {serial : Word} {r : Record} {k : Nat} {v : Word}
    (h : ((List.range 8).map (recordWord serial r))[k]? = some v) : k < 8 ∧ v = recordWord serial r k := by
  rw [List.getElem?_map, Option.map_eq_some_iff] at h
  obtain ⟨j, hj, rfl⟩ := h
  obtain ⟨hk, rfl⟩ := List.getElem?_eq_some_iff.mp hj
  rw [List.getElem_range]
  exact ⟨by simpa using hk, rfl⟩

section Grants
variable {s : State}

/-- The record in progress goes on (R161). -/
theorem grantPublication_current {r : Record} {k : Nat} (hc : s.pub.current = some ⟨r, k⟩) (hk : k < 8) :
    grantPublication s = grantRecord r k s := by
  simp only [grantPublication, hc, if_pos hk]

/-- The FIFO's head begins while the ring is not full (R161, R163). -/
theorem grantPublication_head {r : Record} {rest : List Record} (hc : s.pub.current = none)
    (hfifo : s.pub.fifo = r :: rest) (hfull : ringFull (s.word offConsumed) s.pub = false) :
    grantPublication s = grantRecord r 0 { s with pub := { s.pub with fifo := rest } } := by
  have htest : ringTest (s.word offConsumed) s.pub = s.pub :=
    ringTest_not_stuck fun h => Bool.false_ne_true (hfull.symm.trans h.2)
  simp only [grantPublication, hc, htest, hfifo]

/-- An empty FIFO has nothing to lose. -/
theorem ringTest_empty {w : Word} {p : Publication} (hfifo : p.fifo = []) (hlost : p.lost ≤ 65535) :
    ringTest w p = p := by
  rcases ringTest_cases w p with h | ⟨-, -, h⟩
  · exact h
  · rw [h, hfifo, List.length_nil, Nat.add_zero, Nat.min_eq_right hlost, ← hfifo]

/-- With no record to write the snapshot goes on (R161). -/
theorem grantPublication_snapshot {x : Snapshot} (hc : s.pub.current = none) (hfifo : s.pub.fifo = [])
    (hlost : s.pub.lost ≤ 65535) (hx : s.pub.snapshot = some x) (hnext : x.next < snapshotWrites) :
    grantPublication s = grantSnapshot x s := by
  have htest : ringTest (s.word offConsumed) s.pub = s.pub := ringTest_empty hfifo hlost
  simp only [grantPublication, hc, htest, hfifo, hx, if_pos hnext]

end Grants

/-! ### The writes of a snapshot (R160) -/

/-- A snapshot is 158 writes. -/
theorem snapshotWrites_eq : snapshotWrites = 158 := by
  simp [snapshotWrites, contentOffsets]

/-- R160: the content words go up through the block's three stretches. -/
theorem snapshotOffset_content {k : Nat} (hlow : 1 ≤ k) (hhigh : k ≤ 156) :
    snapshotOffset k = 0x200 + k + (if k ≤ 22 then 0 else if k ≤ 56 then 1 else 7) := by
  have hcontent : contentOffsets[k - 1]? =
      some (0x200 + k + (if k ≤ 22 then 0 else if k ≤ 56 then 1 else 7)) := by
    unfold contentOffsets
    rcases Nat.lt_or_ge k 23 with h1 | h1
    · rw [List.append_assoc, List.getElem?_append_left (by simp; omega), List.getElem?_range' (by omega),
        if_pos (by omega)]
      congr 1
      omega
    rcases Nat.lt_or_ge k 57 with h2 | h2
    · rw [List.append_assoc, List.getElem?_append_right (by simp; omega),
        List.getElem?_append_left (by simp; omega), List.getElem?_range' (by simp; omega), if_neg (by omega),
        if_pos (by omega), List.length_range']
      congr 1
      omega
    · rw [List.getElem?_append_right (by simp; omega), List.getElem?_range' (by simp; omega), if_neg (by omega),
        if_neg (by omega), List.length_append, List.length_range', List.length_range']
      congr 1
      omega
  rw [snapshotOffset, if_neg (by omega), hcontent, Option.getD_some]

/-- The last write goes to the sequence word again. -/
theorem snapshotOffset_last : snapshotOffset 157 = 0x200 := by
  simp [snapshotOffset, contentOffsets, offStatus]

section SnapshotValue
variable {s : State} {x : Snapshot}

theorem snapshotValue_first (h : x.next = 0) : snapshotValue s x = s.pub.seq + 1 := if_pos h

theorem snapshotValue_last (h : x.next = 157) : snapshotValue s x = s.pub.seq + 2 := by
  rw [snapshotValue, snapshotWrites_eq, if_neg (by omega), if_pos (by omega)]

theorem snapshotValue_content (hlow : 1 ≤ x.next) (hhigh : x.next ≤ 156) : snapshotValue s x =
    statusWord s (if x.next = 1 then s.ms else x.time) (snapshotOffset x.next) := by
  rw [snapshotValue, snapshotWrites_eq, if_neg (by omega), if_neg (by omega)]

end SnapshotValue

/-! ## The status block (sections 11.2 and 11.3) -/

/-- A mark sets its own bit and no other. -/
theorem bit_mark_of_lt (b : Bool) {i : Nat} (hi : i < 16) (k : Nat) :
    bit (mark b i) k = (decide (k = i) && b) := by
  cases b
  · simp [mark, bit]
  · have hpow : word (2 ^ i) = BitVec.twoPow 16 i := BitVec.eq_of_toNat_eq (by simp [word, BitVec.toNat_twoPow])
    simp only [mark, if_true, hpow, bit, BitVec.getLsbD_twoPow, Bool.and_true]
    rw [Bool.eq_iff_iff]
    simp only [Bool.and_eq_true, decide_eq_true_iff]
    omega

/-- Marks gathered into a word: each sets its own bit. -/
theorem bit_foldl_marks (f : Fin 9 → Bool) (l : List (Fin 9)) (w : Word) (k : Nat) :
    bit (l.foldl (fun w i => w ||| mark (f i) i.val) w) k = (bit w k || l.any fun i => decide (k = i.val) && f i) := by
  induction l generalizing w with
  | nil => simp
  | cons i l ih => rw [List.foldl_cons, ih, bit_or, bit_mark_of_lt _ (by omega), List.any_cons, Bool.or_assoc]

/-- The trip cause set: a bit for each member, channels 16 to 24 first. -/
theorem bit_causeWord (c : CauseSet) (k : Nat) : bit (causeWord c) k =
    if h : k < 9 then c.chans[k] else (decide (k = 9) && c.mismatch || decide (k = 10) && c.modules) := by
  rw [causeWord, bit_foldl_marks (fun i => c.chans[i]), bit_or, bit_mark_of_lt _ (by decide),
    bit_mark_of_lt _ (by decide)]
  split
  next h =>
    have hmember : ((List.finRange 9).any fun i => decide (k = i.val) && c.chans[i]) = c.chans[k] := by
      rw [Bool.eq_iff_iff, List.any_eq_true]
      constructor
      · rintro ⟨i, -, hi⟩
        simp only [Bool.and_eq_true, decide_eq_true_iff] at hi
        obtain ⟨rfl, hi⟩ := hi
        exact hi
      · exact fun hk => ⟨⟨k, h⟩, List.mem_finRange _, by simpa using hk⟩
    rw [hmember, decide_eq_false (by omega), decide_eq_false (by omega)]
    simp
  next h =>
    have hnone : ((List.finRange 9).any fun i => decide (k = i.val) && c.chans[i]) = false := by
      rw [List.any_eq_false]
      intro i _
      simp only [Bool.and_eq_true, decide_eq_true_iff]
      omega
    rw [hnone, Bool.or_false]

/-- Two bytes of a word. -/
theorem field_bytes {a b : Nat} (ha : a ≤ 255) (hb : b ≤ 255) :
    field (word (a + b * 256)) 0 8 = a ∧ field (word (a + b * 256)) 8 8 = b := by
  rw [field, field, word_toNat (by omega)]
  omega

theorem field_verdictWord (c : Checker) : field (verdictWord c) 0 8 = c.verdict.code.toNat ∧
    field (verdictWord c) 8 8 = if c.sweep = .idle then 0 else 1 := by
  by_cases h : c.sweep = .idle
  · have hrest : (c.sweep != .idle) = false := by simp [h]
    rw [verdictWord, hrest, if_pos h]
    cases c.verdict <;> exact ⟨rfl, rfl⟩
  · have hruns : (c.sweep != .idle) = true := by simp [h]
    rw [verdictWord, hruns, if_neg h]
    cases c.verdict <;> exact ⟨rfl, rfl⟩

theorem CmdResult.code_le (r : CmdResult) : r.code ≤ 255 := by
  cases r <;> decide

section StatusWord
variable (s : State) (time : Time)

/-- The counter's halves. -/
theorem time_lowHalf : time.extractLsb' 0 16 = word (time.toNat % 65536) :=
  BitVec.eq_of_toNat_eq (by simp [word])

theorem time_highHalf : time.extractLsb' 16 16 = word (time.toNat / 65536) :=
  BitVec.eq_of_toNat_eq (by simp [word, Nat.shiftRight_eq_div_pow])

theorem statusWord_source (i : Fin 5) : statusWord s time (0x211 + i.val) = (s.arc.sources[i]).state.code := by
  have hplace : Fin.ofNat 5 (0x211 + i.val - 0x211) = i := Fin.ext (by simp)
  unfold statusWord
  iterate 16 rw [if_neg (by omega)]
  rw [if_pos (by omega)]
  simp only [hplace]

/-- The source under proof, or none. -/
theorem statusWord_proof : (s.arc.proof = none → statusWord s time 0x216 = 0xFFFF) ∧
    ∀ p, s.arc.proof = some p → statusWord s time 0x216 = word p.source.val := by
  have hword : statusWord s time 0x216 = s.arc.proof.elim noneWord fun p => word p.source.val := by
    unfold statusWord
    iterate 17 rw [if_neg (by decide)]
    rw [if_pos rfl]
    cases s.arc.proof <;> rfl
  refine ⟨fun h => ?_, fun p h => ?_⟩
  · rw [hword, h, Option.elim_none, noneWord]
  · rw [hword, h, Option.elim_some]

theorem statusWord_module (n : Fin 8) : statusWord s time (0x218 + 2 * n.val) = (s.mods.mods[n]).state.code ∧
    statusWord s time (0x219 + 2 * n.val) = word (s.ceil.eMod[n]) := by
  have hblock (off : Nat) (hlow : 0x218 ≤ off) (hhigh : off < 0x228) :
      statusWord s time off = moduleWord s (off - 0x218) := by
    unfold statusWord
    iterate 18 rw [if_neg (by omega)]
    rw [if_pos (by omega)]
  have hplace (k : Nat) (hk : k / 2 = n.val) : Fin.ofNat 8 (k / 2) = n := Fin.ext (by simp [hk])
  constructor
  · rw [hblock _ (by omega) (by omega)]
    simp only [moduleWord, hplace (0x218 + 2 * n.val - 0x218) (by omega)]
    exact if_pos (by omega)
  · rw [hblock _ (by omega) (by omega)]
    simp only [moduleWord, hplace (0x219 + 2 * n.val - 0x218) (by omega)]
    exact if_neg (by omega)

/-- R78: only a tracking record shows its levels. -/
theorem statusWord_level (i : Fin 9) :
    (∀ r, s.image.recs[i] = some r → r.capture = .tracking →
      statusWord s time (0x228 + 2 * i.val) = word r.requested ∧
        statusWord s time (0x229 + 2 * i.val) = word r.applied) ∧
    ((∀ r, s.image.recs[i] = some r → r.capture = .capturing) →
      statusWord s time (0x228 + 2 * i.val) = 0 ∧ statusWord s time (0x229 + 2 * i.val) = 0) := by
  have hblock (off : Nat) (hlow : 0x228 ≤ off) (hhigh : off < 0x23A) :
      statusWord s time off = levelWord s (off - 0x228) := by
    unfold statusWord
    iterate 19 rw [if_neg (by omega)]
    rw [if_pos (by omega)]
  have hplace (k : Nat) (hk : k / 2 = i.val) : Fin.ofNat 9 (k / 2) = i := Fin.ext (by simp [hk])
  rw [hblock _ (by omega) (by omega), hblock _ (by omega) (by omega)]
  refine ⟨fun r hr htracking => ?_, fun hcapturing => ?_⟩
  · have hword (k : Nat) (hk : k / 2 = i.val) :
        levelWord s k = if k % 2 = 0 then word r.requested else word r.applied := by
      simp only [levelWord, hplace k hk, hr, if_pos htracking]
    rw [hword _ (by omega), hword _ (by omega)]
    exact ⟨if_pos (by omega), if_neg (by omega)⟩
  · have hword (k : Nat) (hk : k / 2 = i.val) : levelWord s k = 0 := by
      simp only [levelWord, hplace k hk]
      split
      next r hr => exact if_neg (by rw [hcapturing r hr]; exact nofun)
      next => rfl
    exact ⟨hword _ (by omega), hword _ (by omega)⟩

theorem statusWord_channel (c : Fin 25) :
    let x := s.meas.chans[c]
    statusWord s time (0x240 + 4 * c.val) = signedWord x.instant ∧
      statusWord s time (0x241 + 4 * c.val) = signedWord x.filtered ∧
      statusWord s time (0x242 + 4 * c.val) = x.state.code ∧
      statusWord s time (0x243 + 4 * c.val) = word x.factor := by
  intro x
  have hblock (j : Nat) (hj : j < 4) : statusWord s time (0x240 + j + 4 * c.val) = channelWord s (4 * c.val + j) := by
    have hplace : 0x240 + j + 4 * c.val - 0x240 = 4 * c.val + j := by omega
    unfold statusWord
    iterate 20 rw [if_neg (by omega)]
    rw [hplace]
  have hword (k : Nat) (hk : k / 4 = c.val) : (k % 4 = 0 → channelWord s k = signedWord x.instant) ∧
      (k % 4 = 1 → channelWord s k = signedWord x.filtered) ∧ (k % 4 = 2 → channelWord s k = x.state.code) ∧
      (k % 4 = 3 → channelWord s k = word x.factor) := by
    have hplace : Fin.ofNat 25 (k / 4) = c := Fin.ext (by simp [hk])
    refine ⟨fun h => ?_, fun h => ?_, fun h => ?_, fun h => ?_⟩ <;> simp only [channelWord, hplace, h, x]
  obtain ⟨hinstant, -⟩ := hword (4 * c.val) (by omega)
  obtain ⟨-, hfiltered, -⟩ := hword (4 * c.val + 1) (by omega)
  obtain ⟨-, -, hstate, -⟩ := hword (4 * c.val + 2) (by omega)
  obtain ⟨-, -, -, hfactor⟩ := hword (4 * c.val + 3) (by omega)
  exact ⟨(hblock 0 (by decide)).trans (hinstant (by omega)), (hblock 1 (by decide)).trans (hfiltered (by omega)),
    (hblock 2 (by decide)).trans (hstate (by omega)), (hblock 3 (by decide)).trans (hfactor (by omega))⟩

end StatusWord

theorem bit_marksWord (c : Ceilings) (k : Nat) : bit (mark c.fallbackMark 0 ||| mark c.unprovenMark 1) k =
    (decide (k = 0) && c.fallbackMark || decide (k = 1) && c.unprovenMark) := by
  rw [bit_or, bit_mark_of_lt _ (by decide), bit_mark_of_lt _ (by decide)]

theorem field_commandWord (c : Controller) :
    ((∀ code, c.lastCode = some code → code ≤ 255) → field (commandWord c) 0 8 = c.lastCode.getD 0) ∧
      field (commandWord c) 8 8 = c.lastResult.code := by
  obtain ⟨hlow, hhigh⟩ := field_bytes (a := c.lastCode.getD 0 % 256) (by omega) c.lastResult.code_le
  refine ⟨fun hcode => hlow.trans (Nat.mod_eq_of_lt ?_), hhigh⟩
  cases h : c.lastCode with
  | none => decide
  | some code => exact Nat.lt_succ_of_le (hcode code h)

/-! ### The grants, word by word -/

/-- R160: what the grant of a snapshot's next write leaves. -/
theorem exec_snapshotGrant {s : State} {x : Snapshot} (hr : s.resetHeld = false) (hport : s.port = ⟨none, []⟩)
    (hqueue : s.image.queue = []) (hhost : s.hostWork = false) (hc : s.pub.current = none) (hfifo : s.pub.fifo = [])
    (hlost : s.pub.lost ≤ 65535) (hx : s.pub.snapshot = some x) (hnext : x.next ≤ 157) {off : Nat} {v : Word}
    {time : Time} (htime : (if x.next = 1 then s.ms else x.time) = time) (hoff : snapshotOffset x.next = off)
    (hv : snapshotValue s x = v) : exec .publicationWriteGrant s = .next { s with
      pub := { s.pub with snapshot := some ⟨x.next + 1, time⟩ }
      port := ⟨some ⟨.snapshotWord, s.tableAddr off, .write v⟩, []⟩ } := by
  have hleft : x.next < snapshotWrites := by rw [snapshotWrites_eq]; omega
  subst htime hoff hv
  rw [exec_publicationWriteGrant hr hport hqueue hhost, grantPublication_snapshot hc hfifo hlost hx hleft]
  exact congrArg Host.Outcome.next (settle_begin (by exact congrArg Port.class1 hport) ..)

/-- Settles O49: the status block word by word, and each grant by what comes first. -/
theorem publicationWritesAreGranted : Obligations.PublicationWritesAreGranted := by
  refine ⟨⟨rfl, rfl, rfl, rfl, rfl, rfl, rfl⟩, ?status, ?grants⟩
  case status =>
    intro s time held
    obtain ⟨hnone, hproof⟩ := statusWord_proof s time
    obtain ⟨hverdict, hsweep⟩ := field_verdictWord s.checker
    obtain ⟨hcode, hresult⟩ := field_commandWord s.ctl
    exact ⟨time_lowHalf time, time_highHalf time, rfl, fun b => bit_causeWord _ _, rfl, rfl, rfl, rfl, rfl,
      fun hon hpresent => field_bytes (by omega) (by omega), fun b => bit_marksWord _ _, hverdict, hsweep, hcode,
      hresult, rfl, rfl, rfl, statusWord_source s time, hnone, hproof, statusWord_module s time,
      statusWord_level s time, statusWord_channel s time⟩
  case grants =>
    intro s hr hport hqueue hhost issues words slot
    have hexec := exec_publicationWriteGrant hr hport hqueue hhost
    have hclass1 : s.port.class1 = [] := congrArg Port.class1 hport
    refine ⟨fun r k v hc hv => ?_, fun r rest hc hfifo hfull => ?_, ?_⟩
    · have hwords : words r = (List.range 8).map (recordWord s.pub.serial r) := rfl
      rw [hwords] at hv
      obtain ⟨hk, rfl⟩ := recordWord_of_getElem? hv
      rw [hexec, grantPublication_current hc hk]
      exact congrArg Host.Outcome.next (settle_begin (by exact hclass1) ..)
    · rw [hexec, grantPublication_head hc hfifo hfull]
      exact congrArg Host.Outcome.next (settle_begin (by exact hclass1) ..)
    · intro x hc hfifo hlost hx goes
      have hwrite := @exec_snapshotGrant s x hr hport hqueue hhost hc hfifo hlost hx
      refine ⟨fun h => ?_, fun h => ?_, ?_⟩
      · exact hwrite (by omega) (if_neg (by omega)) (by rw [h]; rfl) (snapshotValue_first h)
      · exact hwrite (by omega) (if_neg (by omega)) (by rw [h, snapshotOffset_last]) (snapshotValue_last h)
      · intro off hlow hhigh hoff time
        have hplace := (snapshotOffset_content hlow hhigh).trans hoff.symm
        exact hwrite (by omega) rfl hplace (hplace ▸ snapshotValue_content hlow hhigh)

end Sys2Proof.Machine
end

section
namespace Sys2Proof.Machine

open Sys2Proof Sys2Proof.Config

/-! ## What no command but RESET moves (R159, log entries 1 and 4) -/

/-- The commands that wait and the millisecond counter stand as they did. -/
structure TimeKept (s t : State) : Prop where
  pending : t.pending = s.pending
  ms : t.ms = s.ms

theorem TimeKept.refl (s : State) : TimeKept s s := ⟨rfl, rfl⟩

theorem TimeKept.trans {s x t : State} (h : TimeKept s x) (k : TimeKept x t) : TimeKept s t :=
  ⟨k.pending.trans h.pending, k.ms.trans h.ms⟩

section Frames
variable {s t : State}

theorem steered.timeKept (h : steered s t) : TimeKept s t := ⟨by rw [h], by rw [h]⟩

theorem Measured.timeKept (h : Measured s t) : TimeKept s t := ⟨h.pending, h.ms⟩

theorem modulesMoved.timeKept (h : modulesMoved s t) : TimeKept s t := ⟨by rw [h], by rw [h]⟩

theorem imageOnly.timeKept (h : imageOnly s t) : TimeKept s t := ⟨by rw [h], by rw [h]⟩

theorem startsOnly.timeKept (h : startsOnly s t) : TimeKept s t := ⟨by rw [h], by rw [h]⟩

theorem loadsOn.timeKept (h : loadsOn s t) : TimeKept s t := ⟨by rw [h], by rw [h]⟩

theorem pinned.timeKept (h : pinned s t) : TimeKept s t := ⟨by rw [h], by rw [h]⟩

end Frames

theorem recompute_timeKept (s : State) : TimeKept s (recompute s) := ⟨rfl, rfl⟩

/-! ### The handoff of a host word -/

theorem applyPresentMask_timeKept (old new : Word) (e : Ev) : TimeKept e.st (applyPresentMask old new e).st := by
  unfold applyPresentMask
  split
  · exact .refl _
  · refine .trans ?_ (rebalance_measured _).timeKept
    exact List.foldlRecOn (motive := fun e' : Ev => TimeKept e.st e'.st) _ _ (.refl _) fun e' he' n _ =>
      he'.trans (presentChange_moved old new e' n).timeKept

theorem applyParam_timeKept (off : Nat) (old new : Word) (e : Ev) : TimeKept e.st (applyParam off old new e).st := by
  unfold applyParam
  split
  · exact (applyPresentMask_timeKept old new e).trans ⟨rfl, rfl⟩
  split
  · exact ⟨rfl, rfl⟩
  split
  · exact ⟨rfl, rfl⟩
  split
  · exact ⟨rfl, rfl⟩
  split
  · exact (inputChange_steered 4 _ e).timeKept
  · exact .refl _

theorem applyChannelWord_timeKept (c : Fin 25) (k : Nat) (old : ChanCfg) (e : Ev) :
    TimeKept e.st (applyChannelWord c k old e).st := by
  unfold applyChannelWord
  split
  · exact (applyChannelWord0_measured c old e).timeKept
  · exact (applyFoldSetting_measured c e).timeKept
  · exact (applyFoldSetting_measured c e).timeKept
  · exact (applyFoldSetting_measured c e).timeKept
  · exact .refl _

theorem applyConfig_timeKept (s : State) (t : Target) (off : Nat) (v : Word) (e : Ev) :
    TimeKept e.st (applyConfig s t off v e).st := by
  have hstore : TimeKept e.st (e.st.store off v) := ⟨rfl, rfl⟩
  unfold applyConfig
  dsimp only
  split
  · exact ⟨rfl, rfl⟩
  · exact hstore.trans (applyParam_timeKept _ _ _ (e.upd fun s => s.store off v))
  · exact hstore.trans (applyLevelMask_only _ _ _).timeKept
  · exact hstore.trans (applySource_steered _ _ _ _).timeKept
  next c k =>
    have hword := hstore.trans (applyChannelWord_timeKept c k.val (s.chanCfg c) (e.upd fun s => s.store off v))
    dsimp only [Ev.upd_st]
    split
    · exact hword.trans ⟨rfl, rfl⟩
    · exact hword
  · exact hstore

theorem sweepAfter_timeKept (t : Target) (e : Ev) : TimeKept e.st (sweepAfter t e).st := by
  unfold sweepAfter
  split <;> exact ⟨rfl, rfl⟩

theorem treat_timeKept (s : State) (t : Target) (w : Word) : TimeKept s (treat s t w).1.st := by
  unfold treat
  dsimp only
  split
  · exact .refl s
  · exact (takeCommand_steered w (Ev.of s)).timeKept
  · exact .refl s
  · exact .refl s
  · exact ⟨rfl, rfl⟩
  · exact .refl s
  · split
    · exact (applyConfig_timeKept s _ _ _ (Ev.of s)).trans (sweepAfter_timeKept _ _)
    · exact sweepAfter_timeKept _ (Ev.of s)

theorem dispose_timeKept (a w : Word) (d : Disposal) (s : State) : TimeKept s (dispose a w d s) := by
  cases d <;> exact ⟨rfl, rfl⟩

/-! ### The events -/

theorem conclude_timeKept {s : State} {e : Ev} (h : TimeKept s e.st) (b : State) : TimeKept s (conclude b e) :=
  h.trans ⟨by simp, by simp⟩

theorem takeHostWord_timeKept (s : State) (a w : Word) : TimeKept s (takeHostWord s a w) :=
  conclude_timeKept ((treat_timeKept s _ w).trans (dispose_timeKept a w _ _)) s

theorem loadComplete_timeKept (e : Ev) : TimeKept e.st (loadComplete e).st := by
  rw [loadComplete_st]
  exact (started_only e.st).timeKept.trans ⟨rfl, rfl⟩

theorem LoadMoves.timeKept {s : State} {e : Ev} (h : LoadMoves s e) : TimeKept s e.st := by
  cases h with
  | on h => exact h.on.timeKept
  | completes h => exact h.on.timeKept.trans (loadComplete_timeKept _)

/-- An outcome that is a next state, with the commands that wait and the counter as they were. -/
def completes (s : State) (o : Host.Outcome State Fault Refusal) : Prop := ∃ t, o = .next t ∧ TimeKept s t

section Commands
variable (s : State)

theorem completes_next : completes s (.next s) := ⟨s, rfl, .refl s⟩

variable {s}

/-- A command with a guard either does its event or nothing. -/
theorem completes_whenever {p : Bool} {t : State} (h : TimeKept s t) : completes s (whenever p s t) := by
  cases p
  · exact completes_next s
  · exact ⟨t, rfl, h⟩

theorem completes_event {p : Bool} {b : State} {e : Ev} (h : TimeKept s e.st) :
    completes s (whenever p s (conclude b e)) :=
  completes_whenever (conclude_timeKept h b)

theorem completes_handoff (kind : State → Word → Word → Bool) (s : State) : completes s (handoffOf kind s) := by
  unfold handoffOf
  split
  · exact completes_whenever (takeHostWord_timeKept s _ _)
  · exact completes_next s

theorem tableLoadReadCompletion_completes (v : Word) : completes s (execTableLoadReadCompletion v s) := by
  unfold execTableLoadReadCompletion
  split
  · exact completes_event (loadWord_loads s _ v).timeKept
  · exact completes_next s

theorem writeBackCompletion_completes : completes s (execWriteBackCompletion s) := by
  unfold execWriteBackCompletion
  split
  · have hfree : Loads s s.portFree := .of_shadow rfl rfl
    exact completes_event (loadOn_loads (e := (Ev.of s).upd State.portFree) hfree).timeKept
  · exact completes_next s

theorem flowGateExpiry_completes : completes s (execFlowGateExpiry s) := by
  have hgate : TimeKept s (startGate (setPulses 0 s)) := ⟨rfl, rfl⟩
  refine completes_whenever ?_
  dsimp only
  split
  · have harrive := (arrive_measured (c := 24) false s.meas.pulses (Ev.of (startGate (setPulses 0 s)))).timeKept
    exact conclude_timeKept ((hgate.trans harrive).trans (recompute_timeKept _)) s
  · exact conclude_timeKept hgate s

theorem rampExpiry_completes : completes s (execRampExpiry s) := by
  refine completes_event ?_
  unfold ceilingReached
  split <;> exact ⟨rfl, rfl⟩

theorem captureReadGrant_completes : completes s (execCaptureReadGrant s) := by
  unfold execCaptureReadGrant
  split
  · exact completes_whenever ⟨rfl, rfl⟩
  · exact completes_next s

theorem captureReadCompletion_completes (v : Word) : completes s (execCaptureReadCompletion v s) := by
  unfold execCaptureReadCompletion
  split
  · exact completes_event ⟨rfl, rfl⟩
  · exact completes_next s

theorem imageWriteGrant_completes : completes s (execImageWriteGrant s) := by
  unfold execImageWriteGrant
  split
  · split
    · exact completes_whenever ⟨rfl, rfl⟩
    · exact completes_next s
  · exact completes_next s

theorem imageWriteCompletion_completes : completes s (execImageWriteCompletion s) := by
  unfold execImageWriteCompletion
  split
  · exact completes_event ⟨rfl, rfl⟩
  · exact completes_next s

theorem hostLevelWriteCompletion_completes : completes s (execHostLevelWriteCompletion s) := by
  unfold execHostLevelWriteCompletion
  split
  · exact completes_event ⟨rfl, rfl⟩
  · exact completes_next s

/-- An input that moves (log entry 5). -/
theorem pinMoves_timeKept {u : State} (hu : pinned s u) (i : Fin 5) (level : Bool) :
    TimeKept s (if s.resetHeld then u else conclude s (inputChange i level (Ev.of u))) := by
  split
  · exact hu.timeKept
  · exact conclude_timeKept (hu.timeKept.trans (inputChange_steered i level (Ev.of u)).timeKept) s

theorem debouncedTransition_completes (i : Fin 5) : completes s (execDebouncedTransition i s) := by
  unfold execDebouncedTransition
  split
  next p _ => exact completes_event (debounced_steered i p.level (Ev.of s)).timeKept
  next => exact completes_next s

theorem proofTimerExpiry_completes : completes s (execProofTimerExpiry s) := by
  unfold execProofTimerExpiry
  split
  next => exact completes_next s
  next p _ =>
    refine completes_whenever ?_
    split
    · have hended : steered s (setStimulus p.source false (setProof none none s)) := rfl
      refine conclude_timeKept ?_ s
      exact (hended.trans (setSourceState_steered p.source .failed _)).timeKept
    · refine conclude_timeKept ?_ s
      exact ⟨rfl, rfl⟩

theorem requestFrame_completes (w : Word) (mark : Bool) : completes s (execRequestFrame w mark s) := by
  refine completes_event ?_
  split
  · rw [reportLink_st]; exact ⟨rfl, rfl⟩
  · rw [reportLink_st]; exact ⟨rfl, rfl⟩
  · exact ⟨rfl, rfl⟩
  · exact ⟨rfl, rfl⟩

theorem stallTimerExpiry_completes : completes s (execStallTimerExpiry s) :=
  completes_event (by rw [reportLink_st]; exact ⟨rfl, rfl⟩)

theorem stepPreReadCompletion_completes (v : Word) : completes s (execStepPreReadCompletion v s) := by
  unfold execStepPreReadCompletion
  split
  · exact completes_event ⟨rfl, rfl⟩
  · exact completes_next s

theorem sweepCompletion_completes : completes s (execSweepCompletion s) := by
  unfold execSweepCompletion
  split
  next => exact completes_next s
  next =>
    refine completes_event ?_
    unfold changeVerdict
    split <;> exact ⟨rfl, rfl⟩

theorem grantPublication_timeKept (s : State) : TimeKept s (grantPublication s) := by
  unfold grantPublication
  split
  · split <;> exact ⟨rfl, rfl⟩
  · dsimp only
    split
    · exact ⟨rfl, rfl⟩
    · split
      · split <;> exact ⟨rfl, rfl⟩
      · exact ⟨rfl, rfl⟩

/-- Every command but RESET completes, and moves neither the queue nor the counter. -/
theorem exec_completes {c : Instr} (hreset : ∀ k, c ≠ .reset k) (s : State) : completes s (exec c s) := by
  cases c with
  | reset k => exact absurd rfl (hreset k)
  | resume | standby | release | proof | commandNone | unknownCommand | hostLevelWord
  | consumedIndexWrite | levelEnableMaskWrite | levelAddressWrite | guardWordAWrite | guardBaseStepWrite
  | sourceEnable | sourceDisable | sourceSettingChange | surgeLevelWrite | channelEnable | channelDisable
  | directionChange | persistenceLower | foldSettingWrite | tripLevelWrite | calibrationWrite
  | presentMaskWrite | mismatchParameterWrite | limitCapWrite | interruptionWindowWrite =>
    exact completes_handoff _ s
  | writeWord => exact completes_handoff (fun s a w => !hasOwnRow s a w) s
  | flowPulse | muteSettleExpiry | interruptionEntryRemoval | linkHeader | frameWord | responseSent
  | sweepTimerExpiry => exact completes_whenever ⟨rfl, rfl⟩
  | resetRelease | blankExpiry | systemRecoveryHoldExpiry | hostReadCompletion | hostWriteCompletion
  | snapshotTimerExpiry | snapshotWordCompletion | recordWordCompletion => exact completes_event ⟨rfl, rfl⟩
  | publicationWriteGrant => exact completes_event (grantPublication_timeKept s)
  | discardedWord => exact completes_next s
  | tableLoadReadCompletion v => exact tableLoadReadCompletion_completes v
  | writeBackCompletion => exact writeBackCompletion_completes
  | sampleArrival ch raw =>
    have harrive := (arrive_measured (c := ch) true raw.toNat (Ev.of s)).timeKept
    exact completes_event (harrive.trans (recompute_timeKept _))
  | flowGateExpiry => exact flowGateExpiry_completes
  | moduleRecoveryHoldExpiry n =>
    have hset := (setModule_moved n .on none noneWord (Ev.of s)).timeKept
    exact completes_event ((hset.trans (rebalance_measured _).timeKept).trans (recompute_timeKept _))
  | rampExpiry => exact rampExpiry_completes
  | captureReadGrant => exact captureReadGrant_completes
  | captureReadCompletion v => exact captureReadCompletion_completes v
  | imageWriteGrant => exact imageWriteGrant_completes
  | imageWriteCompletion => exact imageWriteCompletion_completes
  | hostLevelWriteCompletion => exact hostLevelWriteCompletion_completes
  | pendingChange i high => exact completes_whenever (pinMoves_timeKept (by rfl) i high)
  | surgeComparatorChange r => exact ⟨_, rfl, pinMoves_timeKept (by rfl) 4 _⟩
  | debouncedTransition i => exact debouncedTransition_completes i
  | proofTimerExpiry => exact proofTimerExpiry_completes
  | requestFrame w mark => exact requestFrame_completes w mark
  | stallTimerExpiry => exact stallTimerExpiry_completes
  | stepPreReadCompletion v => exact stepPreReadCompletion_completes v
  | sweepCompletion => exact sweepCompletion_completes

end Commands

/-! ### The passage of time -/

/-- R103: an entry is due for its removal once its age has reached the window. -/
theorem removalDue_cons {s : State} {e : Interruption} {rest : List Interruption} (hr : s.resetHeld = false)
    (hlist : s.ctl.list = e :: rest) :
    s.removalDue = true ↔ s.param offWindow * 1000 ≤ (s.ms - e.time).toNat := by
  rw [State.removalDue, hr, hlist]
  exact decide_eq_true_iff

/-- While the reset input is held time stands. -/
theorem idle_of_held {s : State} (hr : s.resetHeld = true) : idle s = s := by
  have hdue : s.removalDue = false := by simp [State.removalDue, hr]
  rw [idle, hdue, if_neg Bool.false_ne_true, tick, if_pos hr]

theorem idle_of_due {s : State} (h : s.removalDue = true) :
    idle s = { s with ctl := { s.ctl with list := s.ctl.list.tail } } := if_pos h

theorem idle_of_not_due {s : State} (hr : s.resetHeld = false) (h : s.removalDue = false) :
    idle s = { s with ms := s.ms + 1 } := by
  rw [idle, h, if_neg Bool.false_ne_true, tick, hr, if_neg Bool.false_ne_true]

/-- Settles O2: with no command waiting by the head of the interruption list, and every command by its kind. -/
theorem timePassesAndEveryCommandCompletes : Obligations.TimePassesAndEveryCommandCompletes := by
  refine ⟨fun s hempty => ?_, fun c s => ?_⟩
  · have hstep : step s = .next (idle s) := by rw [step, hempty]
    rw [hstep]
    refine ⟨fun hr => by rw [idle_of_held hr], fun hr => ⟨fun e rest hlist hage => ?_, fun hyoung => ?_⟩⟩
    · rw [idle_of_due ((removalDue_cons hr hlist).mpr hage), hlist, List.tail_cons]
    · have hdue : s.removalDue = false := by
        cases hlist : s.ctl.list with
        | nil => simp [State.removalDue, hlist]
        | cons e rest =>
          refine Bool.eq_false_of_not_eq_true fun h => ?_
          exact absurd ((removalDue_cons hr hlist).mp h) (Nat.not_le.mpr (hyoung e rest hlist))
      rw [idle_of_not_due hr hdue]
  · by_cases hreset : ∃ k, c = .reset k
    · obtain ⟨k, rfl⟩ := hreset
      exact ⟨_, rfl, rfl, .inr ⟨rfl, k, rfl⟩⟩
    · obtain ⟨t, hexec, hkept⟩ := exec_completes (fun k hk => hreset ⟨k, hk⟩) s
      exact ⟨t, hexec, hkept.pending, .inl hkept.ms⟩

end Sys2Proof.Machine
end

section
namespace Sys2Proof.Machine

open Sys2Proof

/-! ## The queue of commands is served from its front (section 95) -/

theorem step_of_pending_cons {s : State} {c : Instr} {rest : List Instr} (h : s.pending = c :: rest) :
    step s = exec c { s with pending := rest } := by
  rw [step, h]

/-- Settles O1: taking the front command off again leaves the state it was put before. -/
theorem stepRunsTheFrontCommand : Obligations.StepRunsTheFrontCommand := by
  intro c s
  have hfront : ({ s with pending := c :: s.pending } : State).pending = c :: s.pending := rfl
  exact step_of_pending_cons hfront

end Sys2Proof.Machine
end
